-- ==== Sys2Proof/Word.lean ====
section
/-! DEFINITION. The words of the part: a byte of its ports and the 32-bit count of a position counter. -/

namespace Sys2Proof

/-- One byte of the machine port, the cell link or the envelope flash. -/
abbrev Byte := BitVec 8

/-- A position in counts of 0.1 µm: the 32-bit count of a position counter, which wraps (R22). -/
abbrev Pos := BitVec 32

end Sys2Proof
end

