-- ==== Sys2Proof/Syntax.lean ====
section
/-! DEFINITION. The commands of the block: one constructor of `Instr` for each row of
spec/opcode_table.json, with the operands that the row's event brings from outside.

The seventeen requests carry the payload fields of Table 11-6 as they stand in the message, so that every
out-of-range value a message can hold is an operand. The events of the part's pins, of its flash and of its
link carry what the pin, the flash or the line brings. -/

namespace Sys2Proof

/-- The two wheelheads (Table 0-2); check channel, position counter and hold line n serve wheelhead n. -/
inductive Wheelhead where
  | w0
  | w1
deriving DecidableEq, Repr

/-- The two lines of the cell link (R125). -/
inductive LineId where
  | a
  | b
deriving DecidableEq, Repr

/-- A phase pair of a quadrature scale, written A then B (R22). -/
structure PhasePair where
  a : Bool
  b : Bool
deriving DecidableEq, Repr

/-- The class of a journal (Table 0-2, Table 11-5). -/
inductive JournalClass where
  | main
  | pin
  | endFeature
deriving DecidableEq, Repr, Inhabited

/-- What ends on one line when a frame is taken (R134, R135): `none` when no copy of it ends there, and `some cells` the
bit cells of the copy that ends, received after its opening pattern, each the level of its first and of its second half. -/
abbrev LineCopy := Option (List (Bool × Bool))

/-- An edge on a link line as its receiver sees it (R134): whether the line was quiet until it, and, when it completes the
16 bits of an opening pattern, how many bit times after the latest pattern completed on the other line (R135). -/
structure Edge where
  quiet : Bool
  pattern : Option Nat
deriving DecidableEq, Repr

/-- The commands of the block, one constructor per row of spec/opcode_table.json. -/
inductive Instr where
  /-- CONFIGURE (R177): the figure list, each a figure number and a signed 32-bit value. -/
  | configure (figures : List (Byte × BitVec 32))
  /-- START (R178). -/
  | start
  /-- RESTART (R179). -/
  | restart
  /-- MOUNT (R4). -/
  | mount (slot kind position : Byte) (toolId : BitVec 32) (group : Byte) (fullLife consumedLife : BitVec 32)
  /-- DISMOUNT (R7). -/
  | dismount (slot : Byte)
  /-- ASSIGN (R111). -/
  | assign (variant journal cls slot place beforeVariant beforeJournal : Byte)
  /-- UNASSIGN (R113). -/
  | unassign (variant journal : Byte)
  /-- PART BEGIN (R114). -/
  | partBegin (variant : Byte)
  /-- PART END (R115). -/
  | partEnd
  /-- JOURNAL BEGIN (R117). -/
  | journalBegin (variant journal : Byte)
  /-- JOURNAL END (R56). -/
  | journalEnd (wheelhead : Byte)
  /-- DRESS BEGIN (R63). -/
  | dressBegin (wheelhead : Byte)
  /-- DRESS END (R67), with the reported depth d_r. -/
  | dressEnd (wheelhead : Byte) (depth : BitVec 16)
  /-- HOLD RELEASE (R61). -/
  | holdRelease (wheelhead : Byte)
  /-- TEACH (R96). -/
  | teach (variant journal wheelhead m : Byte) (step : BitVec 16)
  /-- QUERY TOOL (R20). -/
  | queryTool (slot : Byte)
  /-- QUERY STATION (R184). -/
  | queryStation
  /-- A taken inbound message whose code is unknown or whose length does not fit its code (R175). -/
  | unknownRequestCode (message : List Byte)
  /-- MCS_N falls (R174). -/
  | transactionStart
  /-- MCS_N rises (R173); `bits` are the levels of MSI sampled in the transaction, in order. -/
  | transactionEnd (bits : List Bool)
  /-- The last bit of the message being sent is clocked out (R174). -/
  | outboundMessageSent
  /-- Power-up or RST_N low (R180); the operands are the input levels when reset ends: the two phase pairs
  (R38) and whether MCS_N is low. -/
  | fullReset (pair0 pair1 : PhasePair) (selectLow : Bool)
  /-- A change on QAn or QBn (R22): the pair the inputs now show. -/
  | quadratureTransition (n : Wheelhead) (pair : PhasePair)
  /-- Rising edges of SFR_CLK (R30), each with the levels of SFR_SYNC and SFR_DAT, in order. -/
  | sensorFrame (edges : List (Bool × Bool))
  /-- The 0.5 ms sample tick (R31). -/
  | sampleInstant
  /-- The overlong timer of the open journal of channel n expires (R57). -/
  | overlongExpiry (n : Wheelhead)
  /-- The overlong timer of the open dress of channel n expires (R71). -/
  | dressOverlongExpiry (n : Wheelhead)
  /-- A flash read of a fetch ends with these bytes clocked in (R87). -/
  | fetchReadEnd (bytes : List Byte)
  /-- A flash write ends with these bytes read back (R77, R104). -/
  | writeEnd (readBack : List Byte)
  /-- A flash status outlasted its limit (R77). -/
  | writeStatusTimeout
  /-- `wait` bit times pass with no edge on the link, after which the candidate may begin (R127). -/
  | frameBegin (wait : Nat)
  /-- The last CRC bit of the frame being sent has been driven (R131). -/
  | sendingComplete
  /-- A read-back on the line differs from the level driven (R132). -/
  | collision (line : LineId)
  /-- A STATUS frame is taken (R135, R147). -/
  | statusReceived (a b : LineCopy)
  /-- A CALL frame is taken (R135, R158). -/
  | callReceived (a b : LineCopy)
  /-- An OFFER frame is taken (R135, R160). -/
  | offerReceived (a b : LineCopy)
  /-- An AWARD frame is taken (R135, R162). -/
  | awardReceived (a b : LineCopy)
  /-- A TAKEN frame is taken (R135, R163). -/
  | takenReceived (a b : LineCopy)
  /-- A DECLINE frame is taken (R135, R164). -/
  | declineReceived (a b : LineCopy)
  /-- A RELEASE frame is taken (R135, R170). -/
  | releaseReceived (a b : LineCopy)
  /-- A frame is taken that is dropped (R135). -/
  | frameDropped (a b : LineCopy)
  /-- A frame is taken that carries this station's own number (R136). -/
  | duplicateStation (a b : LineCopy)
  /-- The silence timer reaches its limit (R139). -/
  | silenceTimerExpiry
  /-- The age of a station's peer entry reaches three times its period (R148). -/
  | peerStale (station : Nat)
  /-- The age of a station's peer entry reaches ten times its period (R151). -/
  | peerRemoved (station : Nat)
  /-- The status period timer expires (R145). -/
  | statusPeriodExpiry
  /-- The 10 ms after the last STATUS sent end (R145). -/
  | statusChangeOffer
  /-- The call window of the open hand-off of a group expires (R161). -/
  | windowExpiry (group : Nat)
  /-- The award timer of the open hand-off of a group expires (R164). -/
  | awardTimerExpiry (group : Nat)
  /-- The reservation of a tool reaches its expiry (R159). -/
  | reservationExpiry (slot : Fin 8)
  /-- An edge on a link line, as its receiver sees it (R125, R127, R134). -/
  | lineEdge (line : LineId) (edge : Edge)
deriving DecidableEq, Repr

end Sys2Proof
end

