-- ==== Sys2Proof/Config.lean ====
section
/-! DEFINITION. The free values of the model: results the spec does not state, as constants without a body, so
that nothing can be proved of them. The configuration figures of CONFIGURE are state (Machine/State.lean). -/

namespace Sys2Proof.Config

/-- The byte that stands in a message where the spec states none (log entry 6): applied to the State's
`freeDraws` counter. -/
opaque freeByte : Nat → Byte

/-- The outcome byte of a REPLY, ACCEPTED when true: R181 names the two outcomes and no value of the byte (log
entry 6). -/
opaque outcomeByte : Bool → Byte

/-- The class that a CALL's class byte outside MAIN, PIN and END stands for (log entry 7). -/
opaque unlistedClass : Byte → JournalClass

/-- Whether a CALL's urgency byte other than NORMAL and URGENT is taken as URGENT (log entry 7). -/
opaque unlistedUrgency : Byte → Bool

end Sys2Proof.Config
end

