-- ==== Sys2Proof/Decode.lean ====
section
/-! DEFINITION. From bits and bytes to commands. The opcode table gives no row any bits, so a table word spells no
command. A request comes as a message on the machine port: a code byte and its payload (Table 11-6); reading one and
writing one stand here. -/

namespace Sys2Proof

/-- The command a table word spells: none, since spec/opcode_table.json gives bits to no row. -/
def decodeTableWord (_nbits _w : Nat) : Option Instr := none

/-- Four bytes, most significant first, as one 32-bit field (section 11.8). -/
def word32 (b3 b2 b1 b0 : Byte) : BitVec 32 := b3 ++ b2 ++ b1 ++ b0

/-- The four bytes of a 32-bit field, most significant first (section 11.8). -/
def bytes32 (w : BitVec 32) : List Byte :=
  [w.extractLsb' 24 8, w.extractLsb' 16 8, w.extractLsb' 8 8, w.extractLsb' 0 8]

/-- Two bytes, most significant first, as one 16-bit field (section 11.8). -/
def word16 (b1 b0 : Byte) : BitVec 16 := b1 ++ b0

/-- The two bytes of a 16-bit field, most significant first (section 11.8). -/
def bytes16 (w : BitVec 16) : List Byte :=
  [w.extractLsb' 8 8, w.extractLsb' 0 8]

/-- The figure list of a CONFIGURE payload: n groups of five bytes; none when the length does not fit (R175). -/
def figureList : List Byte → Option (List (Byte × BitVec 32))
  | [] => some []
  | f :: v3 :: v2 :: v1 :: v0 :: rest =>
    match figureList rest with
    | some fs => some ((f, word32 v3 v2 v1 v0) :: fs)
    | none => none
  | _ => none

/-- The payload bytes of a figure list. -/
def figureBytes : List (Byte × BitVec 32) → List Byte
  | [] => []
  | (f, v) :: rest => f :: (bytes32 v ++ figureBytes rest)

/-- The request a code and a payload give, by Table 11-6; none when the code is not one of the seventeen or the
length does not fit the code (R175). -/
def decodePayload : Nat → List Byte → Option Instr
  | 0x01, p => (figureList p).map .configure
  | 0x02, [] => some .start
  | 0x03, [] => some .restart
  | 0x04, [slot, kind, position, i3, i2, i1, i0, group, f3, f2, f1, f0, u3, u2, u1, u0] =>
    some (.mount slot kind position (word32 i3 i2 i1 i0) group (word32 f3 f2 f1 f0) (word32 u3 u2 u1 u0))
  | 0x05, [slot] => some (.dismount slot)
  | 0x06, [variant, journal, cls, slot, place, beforeVariant, beforeJournal] =>
    some (.assign variant journal cls slot place beforeVariant beforeJournal)
  | 0x07, [variant, journal] => some (.unassign variant journal)
  | 0x08, [variant] => some (.partBegin variant)
  | 0x09, [] => some .partEnd
  | 0x0A, [variant, journal] => some (.journalBegin variant journal)
  | 0x0B, [n] => some (.journalEnd n)
  | 0x0C, [n] => some (.dressBegin n)
  | 0x0D, [n, d1, d0] => some (.dressEnd n (word16 d1 d0))
  | 0x0E, [n] => some (.holdRelease n)
  | 0x0F, [variant, journal, n, m, s1, s0] => some (.teach variant journal n m (word16 s1 s0))
  | 0x10, [slot] => some (.queryTool slot)
  | 0x11, [] => some .queryStation
  | _, _ => none

/-- The request an inbound message carries (R175 steps 1 and 2); none when it is refused BAD_VALUE there. -/
def decodeRequest : List Byte → Option Instr
  | [] => none
  | code :: payload => decodePayload code.toNat payload

/-- The inbound message of a request: its code byte and its payload (Table 11-6); none for a command that is no
request. -/
def encodeRequest : Instr → Option (List Byte)
  | .configure figures => some (0x01#8 :: figureBytes figures)
  | .start => some [0x02#8]
  | .restart => some [0x03#8]
  | .mount slot kind position toolId group fullLife consumedLife =>
    some ([0x04#8, slot, kind, position] ++ bytes32 toolId ++ [group] ++ bytes32 fullLife ++ bytes32 consumedLife)
  | .dismount slot => some [0x05#8, slot]
  | .assign variant journal cls slot place beforeVariant beforeJournal =>
    some [0x06#8, variant, journal, cls, slot, place, beforeVariant, beforeJournal]
  | .unassign variant journal => some [0x07#8, variant, journal]
  | .partBegin variant => some [0x08#8, variant]
  | .partEnd => some [0x09#8]
  | .journalBegin variant journal => some [0x0A#8, variant, journal]
  | .journalEnd n => some [0x0B#8, n]
  | .dressBegin n => some [0x0C#8, n]
  | .dressEnd n depth => some ([0x0D#8, n] ++ bytes16 depth)
  | .holdRelease n => some [0x0E#8, n]
  | .teach variant journal n m step => some ([0x0F#8, variant, journal, n, m] ++ bytes16 step)
  | .queryTool slot => some [0x10#8, slot]
  | .queryStation => some [0x11#8]
  | .unknownRequestCode message => some message
  | .transactionStart | .transactionEnd _ | .outboundMessageSent | .fullReset _ _ _
  | .quadratureTransition _ _ | .sensorFrame _ | .sampleInstant | .overlongExpiry _ | .dressOverlongExpiry _
  | .fetchReadEnd _ | .writeEnd _ | .writeStatusTimeout | .frameBegin _ | .sendingComplete | .collision _
  | .statusReceived _ _ | .callReceived _ _ | .offerReceived _ _ | .awardReceived _ _ | .takenReceived _ _
  | .declineReceived _ _ | .releaseReceived _ _ | .frameDropped _ _ | .duplicateStation _ _
  | .silenceTimerExpiry | .peerStale _ | .peerRemoved _ | .statusPeriodExpiry | .statusChangeOffer
  | .windowExpiry _ | .awardTimerExpiry _ | .reservationExpiry _ | .lineEdge _ _ => none

end Sys2Proof
end

