-- ==== Sys2Proof/Machine/State.lean ====
section
/-! DEFINITION. Everything the MT-3216 holds, as plain data, block by block in the order of Table 0-1, and its value
after a full reset. -/

namespace Sys2Proof.Machine

/-! ## Containers -/

/-- One value for each wheelhead. -/
structure PerHead (α : Type) where
  w0 : α
  w1 : α
deriving DecidableEq, Repr

/-- The value of wheelhead n. -/
def PerHead.get {α : Type} (p : PerHead α) : Wheelhead → α
  | .w0 => p.w0
  | .w1 => p.w1

/-- Replace the value of wheelhead n. -/
def PerHead.set {α : Type} (p : PerHead α) (n : Wheelhead) (x : α) : PerHead α :=
  match n with
  | .w0 => { p with w0 := x }
  | .w1 => { p with w1 := x }

/-- One value for each line of the cell link. -/
structure PerLine (α : Type) where
  a : α
  b : α
deriving DecidableEq, Repr

/-- The value of a line. -/
def PerLine.get {α : Type} (p : PerLine α) : LineId → α
  | .a => p.a
  | .b => p.b

/-- Replace the value of a line. -/
def PerLine.set {α : Type} (p : PerLine α) (l : LineId) (x : α) : PerLine α :=
  match l with
  | .a => { p with a := x }
  | .b => { p with b := x }

/-- An operation: a (variant, journal) pair (Table 0-2). -/
structure Op where
  variant : Nat
  journal : Nat
deriving DecidableEq, Repr

/-! ## The tool table (chapter 1) -/

/-- The states of a mounted tool (Table 1-2); a VACANT slot is `none` in the table. -/
inductive ToolState where
  | fresh
  | inService
  | worn
  | spent
  | broken
deriving DecidableEq, Repr

/-- The kind of a tool (Table 1-1). -/
inductive ToolKind where
  | wheel
  | dresser
deriving DecidableEq, Repr

/-- Where a tool sits (Table 1-1). -/
inductive Seat where
  | wheelhead (n : Wheelhead)
  | dresser (n : Wheelhead)
  | rack
deriving DecidableEq, Repr

/-- The three optional last contacts of a wheel (Table 1-1). -/
structure Contacts where
  main : Option Pos
  pin : Option Pos
  endFeature : Option Pos
deriving DecidableEq, Repr

/-- A mounted tool's record (Table 1-1). A dresser's wheels-only fields stand at absent, 0 and clear. -/
structure Tool where
  state : ToolState
  kind : ToolKind
  seat : Seat
  id : BitVec 32
  group : Option Nat
  full : Nat
  life : Int
  warn : Nat
  contacts : Contacts
  dressRun : Nat
  dressBlocked : Bool
  overrun : Bool
deriving DecidableEq, Repr

/-! ## Position counters and signal sampler (chapter 2) -/

/-- A position counter: its count, accepted phase pair, fault flag and five captures (R22, R23, Table 2-2). -/
structure Counter where
  count : Pos
  pair : PhasePair
  fault : Bool
  contact : Option Pos
  contactPrior : Option Pos
  dressContact : Option Pos
  dressEnd : Option Pos
  journalEnd : Option Pos
deriving DecidableEq, Repr

/-- The power and acoustic emission of one wheelhead (R31). -/
structure Reading where
  p : Nat
  a : Nat
deriving DecidableEq, Repr

/-- The signal sampler (R30 to R33): the bits of the partial frame (in order), the pending frame, the latest values,
the missing run, the SENSOR_LOST flags and the position of each channel's previous sample (R24). -/
structure Sampler where
  partialFrame : Option (List Bool)
  pendingFrame : Option (PerHead Reading)
  latest : PerHead Reading
  missing : Nat
  lost : PerHead Bool
  previous : PerHead Pos
deriving DecidableEq, Repr

/-! ## Check channels (chapters 3, 4 and 6) -/

/-- The states of a check channel (Table 3-2). -/
inductive ChannelState where
  | idle
  | armed
  | grinding
  | sparkout
  | dressing
  | held
  | stopped
deriving DecidableEq, Repr

/-- A fixed band source (R41, R42); ENVELOPE names its slot. -/
inductive BandSource where
  | envelope (slot : Fin 24)
  | coarse
  | teach
deriving DecidableEq, Repr

/-- The hold-class verdicts (Table 0-2). -/
inductive HoldVerdict where
  | loss
  | crash
  | void
  | blind
deriving DecidableEq, Repr

/-- The four journal states of a channel (R39). -/
inductive JournalPhase where
  | armed
  | grinding
  | sparkout
  | held
deriving DecidableEq, Repr

/-- The working state of a channel during a journal (Table 3-3). `source` is `none` while pending; `runPowers` are
the power values of the contact run's samples, which begin the energy at contact (R35); `contacted` says whether the
journal reached contact; `deadline` is the overlong timer. -/
structure Journal where
  op : Op
  cls : JournalClass
  slot : Fin 8
  key : Nat
  source : Option BandSource
  window : List Nat
  samplesArmed : Nat
  idlePower : Option Nat
  contactRun : Nat
  candidate : Option Pos
  runPowers : List Nat
  crashRun : Nat
  stillRun : Nat
  lowRun : Nat
  highRun : Nat
  heavy : Bool
  verdict : Option HoldVerdict
  energy : Nat
  peakP : Nat
  peakA : Nat
  samples : Nat
  heldCount : Nat
  contacted : Bool
  deadline : Nat
deriving DecidableEq, Repr

/-- The dress state of a channel (Table 4-3). -/
structure Dress where
  wheelSlot : Fin 8
  rollSlot : Fin 8
  run : Nat
  runStart : Option Pos
  contactSeen : Bool
  sensorLoss : Bool
  faultMark : Bool
  peakP : Nat
  peakA : Nat
  samples : Nat
  heldCount : Nat
  deadline : Nat
deriving DecidableEq, Repr

/-- What a channel is doing, with the working state that goes with it. -/
inductive Activity where
  | idle
  | stopped
  | journal (phase : JournalPhase) (j : Journal)
  | dressing (d : Dress)
deriving DecidableEq, Repr

/-- A lower and an upper power, of an envelope point or of a taught point. -/
structure Bounds where
  lower : Nat
  upper : Nat
deriving DecidableEq, Repr

/-- A WAITING teach buffer (Table 6-2). -/
structure TeachBuffer where
  key : Nat
  m : Nat
  step : Nat
  counted : Nat
  table : Vector (Option Bounds) 64
  energySum : Nat
  grindTable : Vector (Option Bounds) 64
  grindOpen : Bool
deriving DecidableEq, Repr

/-- A check channel: its activity and its teach buffer, `none` when FREE (R39, R95). -/
structure Channel where
  activity : Activity
  teach : Option TeachBuffer
deriving DecidableEq, Repr

/-- The state of a channel as Table 3-2 names it. -/
def Channel.state (c : Channel) : ChannelState :=
  match c.activity with
  | .idle => .idle
  | .stopped => .stopped
  | .dressing _ => .dressing
  | .journal .armed _ => .armed
  | .journal .grinding _ => .grinding
  | .journal .sparkout _ => .sparkout
  | .journal .held _ => .held

/-! ## Envelope store (chapters 5 and 6) -/

/-- The contents of an envelope (R78): M, step, E_ref and the 64 points. -/
structure Envelope where
  m : Nat
  step : Nat
  eRef : Nat
  points : Vector Bounds 64
deriving DecidableEq, Repr

/-- An envelope slot with what it holds in each of its six states (Table 5-1). The read count of a FILLING slot
stands with the fetch under way (`FlashPort.fetching`), and `attempts` are the write attempts of R102. -/
inductive EnvSlot where
  | empty
  | filling (key : Nat)
  | ready (key : Nat) (env : Envelope)
  | absent (key : Nat)
  | writing (key : Nat) (env : Envelope) (attempts : Nat)
  | unsaved (key : Nat) (env : Envelope)
deriving DecidableEq, Repr

/-- The kind of a fetch request (R83). -/
inductive FetchKind where
  | demand
  | prefetch
deriving DecidableEq, Repr

/-- A fetch request (R83). -/
structure FetchRequest where
  key : Nat
  kind : FetchKind
deriving DecidableEq, Repr

/-- The flash port (R77). A fetch holds its slot, its key, its read count (R88) and whether a RESTART cut it short
(R94); a write holds its slot, its key, the record formed at its start (R90) and whether its outcome is to be
discarded (R103). -/
inductive FlashPort where
  | idle
  | fetching (slot : Fin 24) (key : Nat) (reads : Nat) (cutShort : Bool)
  | writing (slot : Fin 24) (key : Nat) (record : List Byte) (discard : Bool)
deriving DecidableEq, Repr

/-- The envelope store: slots, LRU order (least recent first), fetch queue in service order, bad-key set, flash port
and pending writes (oldest first). -/
structure Store where
  slots : Vector EnvSlot 24
  lru : List (Fin 24)
  queue : List FetchRequest
  badKeys : BitVec 256
  port : FlashPort
  pendingWrites : List (Fin 24)
deriving DecidableEq, Repr

/-! ## Sister unit (chapters 7, 9 and 10) -/

/-- The status of an operation-list entry (R109). -/
inductive OpStatus where
  | active
  | handing
  | orphan
deriving DecidableEq, Repr

/-- The cause of a leaving mark (R116). -/
inductive LeaveCause where
  | reclaim
  | withdrawn
deriving DecidableEq, Repr

/-- An operation-list entry (Table 7-1); `lender` is `none` for origin OWN. -/
structure OpEntry where
  op : Op
  cls : JournalClass
  slot : Fin 8
  lender : Option Nat
  status : OpStatus
  mark : Option LeaveCause
deriving DecidableEq, Repr

/-- A lent-list entry (R108). -/
structure LentEntry where
  op : Op
  cls : JournalClass
  group : Nat
  holder : Nat
deriving DecidableEq, Repr

/-- A called operation: its pair, class and lender, `none` for no lender (R157). -/
structure CalledOp where
  op : Op
  cls : JournalClass
  lender : Option Nat
deriving DecidableEq, Repr

/-- A reservation on a tool (Table 10-2); `opsCount` is its ops count and `expiry` the moment it lapses. -/
structure Reservation where
  caller : Nat
  tag : BitVec 8
  group : Nat
  ops : List CalledOp
  opsCount : Nat
  urgent : Bool
  expiry : Nat
deriving DecidableEq, Repr

/-- The kinds of trigger (Table 10-3). -/
inductive TriggerKind where
  | wear
  | break
  | dressBlocked
  | dismount
deriving DecidableEq, Repr

/-- A trigger of a tool with a group: slot, group, position and kind (R155). -/
structure Trigger where
  slot : Fin 8
  group : Nat
  seat : Seat
  kind : TriggerKind
deriving DecidableEq, Repr

/-- An operation of a batch (R157). -/
structure BatchOp where
  op : Op
  cls : JournalClass
deriving DecidableEq, Repr

/-- An offer in an offer set (R160, Table 11-11). -/
structure Offer where
  station : Nat
  life : Int
  freeAfter : Nat
  slot : Nat
  toolState : Nat
  opsCount : Nat
deriving DecidableEq, Repr

/-- The phase of an open hand-off; AWARDING holds the station awarded under the current tag (R161). -/
inductive Phase where
  | calling
  | awarding (station : Nat)
deriving DecidableEq, Repr

/-- An open hand-off (Table 10-2). `timer` is the running window or award timer, as the moment it expires; it is
`none` until the link controller has reported the CALL or the AWARD SENT (R157, R161). -/
structure HandOff where
  group : Nat
  slot : Fin 8
  seat : Seat
  trigger : TriggerKind
  lender : Option Nat
  batch : List BatchOp
  needPlaces : Nat
  needLife : Nat
  round : Nat
  phase : Phase
  tag : BitVec 8
  earlier : List (BitVec 8 × Option Nat)
  offers : List Offer
  timer : Option Nat
deriving DecidableEq, Repr

/-- A standing FAILED record (Table 10-2). -/
structure Standing where
  group : Nat
  slot : Fin 8
  seat : Seat
  trigger : TriggerKind
  lender : Option Nat
  pairs : List Op
  needPlaces : Nat
  needLife : Nat
deriving DecidableEq, Repr

/-- One operation of an adoption: whether it came home, and the lent entry that was removed for it (R162, R165). -/
structure AdoptedOp where
  op : Op
  home : Option LentEntry
deriving DecidableEq, Repr

/-- An entry of the adoption log (Table 10-2). -/
structure Adoption where
  caller : Nat
  tag : BitVec 8
  ops : List AdoptedOp
  sent : Bool
deriving DecidableEq, Repr

/-- A tool summary as a STATUS carries it (R142, Table 11-9). -/
structure ToolSummary where
  group : Nat
  state : Nat
  reserved : Bool
  life : Int
deriving DecidableEq, Repr

/-- A held-for-others entry (R142). -/
structure HeldEntry where
  op : Op
  lender : Nat
deriving DecidableEq, Repr

/-- The contents of a STATUS frame (R142). -/
structure StatusBody where
  period : Nat
  free : Nat
  tools : List ToolSummary
  held : List HeldEntry
  reclaim : List Nat
deriving DecidableEq, Repr

/-- A peer entry (R146): `heardAt` is the moment of the latest frame, from which its age runs; `live` its
standing; `status` the contents of its latest STATUS, with this station's own period and nothing else until one
arrives. -/
structure Peer where
  station : Nat
  heardAt : Nat
  live : Bool
  status : StatusBody
deriving DecidableEq, Repr

/-- The sister unit: operation list, lent list, part record, hand-off state and peer view. `lastSent` is the moment
the last STATUS was reported SENT and `period` the period timer (R145). -/
structure Sister where
  opList : List OpEntry
  lent : List LentEntry
  part : Option Nat
  reservations : Vector (Option Reservation) 8
  handOffs : List HandOff
  standing : List Standing
  triggers : List Trigger
  log : List Adoption
  tag : BitVec 8
  peers : List Peer
  viewFull : Bool
  mark : Bool
  lastSent : Option Nat
  period : Option Nat
deriving DecidableEq, Repr

/-! ## Link controller (chapter 8) -/

/-- The reasons of a DECLINE (Table 11-5); a byte outside the list is kept as it is. -/
inductive DeclineReason where
  | tooLate
  | unfit
  | withdrawn
  | other (code : Byte)
deriving DecidableEq, Repr

/-- The contents of a CALL (R157). -/
structure CallBody where
  tag : BitVec 8
  group : Nat
  urgent : Bool
  window : Nat
  needPlaces : Nat
  needLife : Nat
  ops : List CalledOp
deriving DecidableEq, Repr

/-- The contents of an OFFER (R158, Table 11-9). -/
structure OfferBody where
  caller : Nat
  tag : BitVec 8
  group : Nat
  urgent : Bool
  life : Int
  freeAfter : Nat
  slot : Nat
  toolState : Nat
  opsCount : Nat
deriving DecidableEq, Repr

/-- The contents of the seven frame kinds (Table 8-2). An AWARD's winner is `none` for no winner. -/
inductive FrameBody where
  | status (b : StatusBody)
  | call (b : CallBody)
  | offer (b : OfferBody)
  | award (tag : BitVec 8) (group : Nat) (winner : Option Nat)
  | taken (caller : Nat) (tag : BitVec 8)
  | decline (station : Nat) (tag : BitVec 8) (reason : DeclineReason)
  | release (lender : Nat) (ops : List Op)
deriving DecidableEq, Repr

/-- A frame held by the transmit queue (R128). Its age is its place in the queue, which is kept oldest first. -/
structure QueuedFrame where
  body : FrameBody
  attempts : Nat
  sending : Bool
deriving DecidableEq, Repr

/-- A link line with its receiver (R134, R137): its state, its runs and whether the receiver looks for an opening
pattern. -/
structure Line where
  up : Bool
  bad : Nat
  good : Nat
  looking : Bool
deriving DecidableEq, Repr

/-- The lines on which copies of one frame have begun (R135). -/
inductive FrameLines where
  | a
  | b
  | both
deriving DecidableEq, Repr

/-- The link controller: the transmit queue (frame places and STATUS place together, oldest first), the lines, the frames
of which copies have begun and that are not taken yet, oldest first (R134, R135), the quiet time in bit times (R125), the
silence timer and the sticky flag. -/
structure Link where
  queue : List QueuedFrame
  lines : PerLine Line
  begun : List FrameLines
  quietTime : Nat
  silence : Option Nat
  silent : Bool
  duplicate : Bool
deriving DecidableEq, Repr

/-! ## Machine port (chapter 11) -/

/-- The station states (R176). -/
inductive StationState where
  | unconfigured
  | configured
  | running
deriving DecidableEq, Repr

/-- Where a routing class goes (R185). -/
inductive Route where
  | neither
  | alert
  | note
deriving DecidableEq, Repr

/-- The routing of the nine classes of Table 11-4. -/
structure Routing where
  reply : Route
  grindHold : Route
  grindOther : Route
  dressRecord : Route
  toolNotice : Route
  dressDue : Route
  swapNotice : Route
  linkNotice : Route
  storeNotice : Route
deriving DecidableEq, Repr

/-- The configuration in force: the figures of Table 11-8 (routing apart) in number order, and the routing. -/
structure Figures where
  station : Nat
  linkRate : Nat
  statusPeriod : Nat
  capacity : Nat
  warnPct : Nat
  bMain : Nat
  bPin : Nat
  bEnd : Nat
  overrunAllowance : Nat
  kWheel : Nat
  kRoll : Nat
  dir0 : Int
  dir1 : Int
  contactMargin : Nat
  aeDress : Nat
  nLow : Nat
  nHigh : Nat
  aeCrash : Nat
  voidMargin : Nat
  maxGrind : Nat
  dressTol : Nat
  dressRatio : Nat
  dressCount : Nat
  marginLow : Nat
  marginHigh : Nat
  wCall : Nat
  horizon : Nat
  routing : Routing
deriving DecidableEq, Repr

/-- The refusal reasons (Table 11-3). -/
inductive Reason where
  | wrongState
  | badValue
  | unknownTool
  | notMine
  | toolBroken
  | toolSpent
  | busy
  | tableFull
  | storeFull
deriving DecidableEq, Repr

/-- The verdicts of a closed journal (R58). -/
inductive Verdict where
  | none
  | heavy
  | hold (v : HoldVerdict)
  | overlong
deriving DecidableEq, Repr

/-- The band source a grind record names (Table 3-4). -/
inductive BandName where
  | envelope
  | coarse
  | teach
deriving DecidableEq, Repr

/-- The grind record of a closed journal (Table 3-4). -/
structure GrindRecord where
  op : Op
  slot : Fin 8
  verdict : Verdict
  source : BandName
  energy : Nat
  q : Nat
  charge : Nat
  contact : Option Pos
  endTravel : Nat
  peakP : Nat
  peakA : Nat
  samples : Nat
  heldCount : Nat
  overrun : Bool
  teachCounted : Bool
deriving DecidableEq, Repr

/-- The outcome of a dress (Table 4-4). -/
inductive DressOutcome where
  | none
  | void
  | overlong
deriving DecidableEq, Repr

/-- The dress record (Table 4-4). -/
structure DressRecord where
  wheelhead : Wheelhead
  wheelSlot : Fin 8
  rollSlot : Fin 8
  outcome : DressOutcome
  reported : Option Nat
  measured : Option Nat
  depth : Nat
  wheelCharge : Nat
  rollCharge : Nat
  contact : Option Pos
  peakP : Nat
  peakA : Nat
  samples : Nat
  heldCount : Nat
  depthMismatch : Bool
  sensorLost : Bool
  positionFault : Bool
  overrunWheel : Bool
  overrunRoll : Bool
deriving DecidableEq, Repr

/-- The fields of a TOOL NOTICE for a mounted tool (R19). -/
structure NoticeFields where
  id : BitVec 32
  kind : ToolKind
  seat : Seat
  group : Option Nat
  state : ToolState
  life : Int
  overrun : Bool
  dressBlocked : Bool
deriving DecidableEq, Repr

/-- A TOOL NOTICE (R19); `tool` is `none` for a VACANT slot. -/
structure ToolNotice where
  slot : Fin 8
  tool : Option NoticeFields
deriving DecidableEq, Repr

/-- What a QUERY TOOL reply adds to the notice fields of a mounted tool (R20). -/
structure ToolDetail where
  full : Nat
  warn : Nat
  contacts : Contacts
  dressRun : Option Nat
deriving DecidableEq, Repr

/-- A DRESS DUE notice (R74); the roll is absent when none is mounted. -/
structure DressDue where
  wheelSlot : Fin 8
  id : BitVec 32
  wheelhead : Wheelhead
  run : Nat
  q : Nat
  roll : Option (Fin 8 × ToolState)
  blocked : Bool
deriving DecidableEq, Repr

/-- The kinds of SWAP NOTICE (R171). -/
inductive SwapKind where
  | local
  | opsOut
  | opsIn
  | opsBack
  | noSister
  | holderLost
deriving DecidableEq, Repr

/-- A SWAP NOTICE (R171). -/
structure SwapNotice where
  kind : SwapKind
  group : Option Nat
  slot : Option (Fin 8)
  slot2 : Option (Fin 8)
  peer : Option Nat
  moved : List Op
  dropped : List Op
deriving DecidableEq, Repr

/-- The seven frame kinds as a notice names them (Table 11-9). -/
inductive FrameKind where
  | status
  | call
  | offer
  | award
  | taken
  | decline
  | release
deriving DecidableEq, Repr

/-- A LINK NOTICE (R140, R146). -/
inductive LinkNotice where
  | queueFull (kind : FrameKind)
  | sendFailed (kind : FrameKind) (tag : Option (BitVec 8))
  | lineDown (line : LineId)
  | lineUp (line : LineId)
  | silent
  | duplicateStation
  | viewFull (station : Nat)
deriving DecidableEq, Repr

/-- The outcome of a bad read (Table 5-3). -/
inductive BadRead where
  | crc
  | marker
  | key
  | count
deriving DecidableEq, Repr

/-- A STORE NOTICE (R93, R104). -/
inductive StoreNotice where
  | badRecord (key : Nat) (slot : Fin 24) (outcome : BadRead)
  | unsaved (key : Nat) (slot : Fin 24)
deriving DecidableEq, Repr

/-- A channel as QUERY STATION shows it: its state and its WAITING buffer's key, M, step and counted (R106). -/
structure ChannelView where
  state : ChannelState
  teach : Option (Nat × Nat × Nat × Nat)
deriving DecidableEq, Repr

/-- What the flash port is doing, as QUERY STATION shows it (R93). -/
inductive FlashView where
  | idle
  | fetching
  | writing
deriving DecidableEq, Repr

/-- A peer entry as QUERY STATION shows it (R152): its age in ms stands for the moment it was last heard. -/
structure PeerView where
  station : Nat
  ageMs : Nat
  live : Bool
  status : StatusBody
deriving DecidableEq, Repr

/-- A reservation as QUERY STATION shows it (R171), with the time left to its expiry in ms. -/
structure ReservationView where
  slot : Fin 8
  caller : Nat
  tag : BitVec 8
  group : Nat
  opsCount : Nat
  urgent : Bool
  leftMs : Nat
deriving DecidableEq, Repr

/-- The snapshot of a QUERY STATION reply (R184), item by item. `free` is `none` in UNCONFIGURED, where no C is in
force (log entry 6). -/
structure Snapshot where
  station : StationState
  config : Option Figures
  inboundLost : Bool
  recordsLost : Bool
  noticesLost : Bool
  duplicate : Bool
  faults : PerHead Bool
  inboundCount : Nat
  outboundCount : Nat
  recordCount : Nat
  counters : PerHead Counter
  latest : PerHead Reading
  lost : PerHead Bool
  missing : Nat
  channels : PerHead ChannelView
  slotCounts : List Nat
  fetchQueue : Nat
  flash : FlashView
  badKeys : BitVec 256
  part : Option Nat
  opList : List OpEntry
  lent : List LentEntry
  lines : PerLine Line
  urgentFrames : Nat
  normalFrames : Nat
  statusHeld : Bool
  sendingKind : Option FrameKind
  silent : Bool
  free : Option Nat
  reclaim : List Nat
  mark : Bool
  viewFull : Bool
  peers : List PeerView
  handOffs : List HandOff
  standing : List Standing
  triggers : List Trigger
  reservations : List ReservationView
  tag : BitVec 8
deriving DecidableEq, Repr

/-- The accepted contents of a REPLY (R181). -/
inductive Contents where
  | plain
  | clamped (numbers : List Nat)
  | teach (m step : Nat)
  | tool (notice : ToolNotice) (detail : Option ToolDetail)
  | station (snapshot : Snapshot)
deriving DecidableEq, Repr

/-- The outcome of a REPLY: the contents when accepted, the reason when refused (R181). -/
inductive Answer where
  | accepted (contents : Contents)
  | refused (reason : Reason)
deriving DecidableEq, Repr

/-- An outbound message (Table 11-7). An unwatched record is a GRIND RECORD with verdict UNWATCHED (R119). -/
inductive OutMsg where
  | reply (code : Byte) (answer : Answer)
  | grindRecord (r : GrindRecord)
  | unwatched (op : Op) (reason : Reason)
  | dressRecord (r : DressRecord)
  | toolNotice (n : ToolNotice)
  | dressDue (n : DressDue)
  | swapNotice (n : SwapNotice)
  | linkNotice (n : LinkNotice)
  | storeNotice (n : StoreNotice)
deriving DecidableEq, Repr

/-- Where the port stands between transactions (R173, R180): no transaction, a transaction open, or MCS_N low since
the end of a full reset, whose bytes are ignored. -/
inductive Select where
  | high
  | low
  | ignored
deriving DecidableEq, Repr

/-- The machine port: inbound queue, outbound queue (oldest first), whether the head is the message being sent, the
pending places, the transmit shifter's bytes and the sticky flags of its own (R173 to R184). -/
structure Port where
  inbound : List (List Byte)
  outbound : List OutMsg
  sending : Bool
  pendingNotices : Vector (Option ToolNotice) 8
  select : Select
  shifter : List Byte
  inboundLost : Bool
  recordsLost : Bool
  noticesLost : Bool
deriving DecidableEq, Repr

/-! ## The whole part -/

/-- The state of the MT-3216. `clock` counts half milliseconds since the last full reset (log entry 3), `freeDraws`
is the model's own counter of free values drawn (log entry 6), and `pending` is the queue of commands waiting. -/
structure State where
  station : StationState
  config : Option Figures
  tools : Vector (Option Tool) 8
  counters : PerHead Counter
  sampler : Sampler
  channels : PerHead Channel
  store : Store
  sister : Sister
  link : Link
  port : Port
  clock : Nat
  freeDraws : Nat
  pending : List Instr
deriving DecidableEq, Repr

/-- The block never stops with a fault: the spec names no event that stops it, and every error it describes is a
refusal in a REPLY, a notice, a verdict or a flag. No constructor, so nothing raises one. -/
inductive Fault where
deriving DecidableEq, Repr

/-- Why a command has no meaning. -/
inductive Refusal where
  /-- Raised by `exec` for a command of the table that is not modelled; safe: the machine stops. -/
  | notModelled (mnemonic : String)
deriving DecidableEq, Repr

/-- A counter after a full reset that found the given phase pair on its inputs (Table 2-4). -/
def Counter.reset (pair : PhasePair) : Counter :=
  { count := 0, pair := pair, fault := false, contact := none, contactPrior := none, dressContact := none
    dressEnd := none, journalEnd := none }

/-- The sampler after a full reset (Table 2-4). -/
def Sampler.reset : Sampler :=
  { partialFrame := none, pendingFrame := none, latest := ⟨⟨0, 0⟩, ⟨0, 0⟩⟩, missing := 0
    lost := ⟨false, false⟩, previous := ⟨0, 0⟩ }

/-- A channel after a full reset or a RESTART (Table 3-5, Table 6-5). -/
def Channel.reset : Channel :=
  { activity := .idle, teach := none }

/-- The envelope store after a full reset (Table 5-4). -/
def Store.reset : Store :=
  { slots := Vector.replicate 24 .empty, lru := [], queue := [], badKeys := 0, port := .idle, pendingWrites := [] }

/-- The sister unit after a full reset (Tables 7-4, 9-2 and 10-4). -/
def Sister.reset : Sister :=
  { opList := [], lent := [], part := none, reservations := Vector.replicate 8 none, handOffs := [], standing := []
    triggers := [], log := [], tag := 0, peers := [], viewFull := false, mark := false, lastSent := none
    period := none }

/-- A line after a full reset (Table 8-4). -/
def Line.reset : Line :=
  { up := true, bad := 0, good := 0, looking := false }

/-- The link controller after a full reset (Table 8-4); the quiet time starts at 0 (log entry 1). -/
def Link.reset : Link :=
  { queue := [], lines := ⟨Line.reset, Line.reset⟩, begun := [], quietTime := 0, silence := none, silent := false
    duplicate := false }

/-- The machine port after a full reset that ended with MCS_N as `select` says (R180). -/
def Port.reset (select : Select) : Port :=
  { inbound := [], outbound := [], sending := false, pendingNotices := Vector.replicate 8 none, select := select
    shifter := [], inboundLost := false, recordsLost := false, noticesLost := false }

/-- The part after a full reset that found the given phase pairs and level of MCS_N on its inputs. -/
def State.afterReset (pair0 pair1 : PhasePair) (select : Select) : State :=
  { station := .unconfigured, config := none, tools := Vector.replicate 8 none
    counters := ⟨Counter.reset pair0, Counter.reset pair1⟩, sampler := Sampler.reset
    channels := ⟨Channel.reset, Channel.reset⟩, store := Store.reset, sister := Sister.reset, link := Link.reset
    port := Port.reset select, clock := 0, freeDraws := 0, pending := [] }

/-- The machine right after reset. The spec fixes every field but the input levels found when reset ends: both phase
pairs 00 and MCS_N high (log entry 1). -/
def State.reset : State :=
  State.afterReset ⟨false, false⟩ ⟨false, false⟩ .high

end Sys2Proof.Machine
end

