-- ==== Sys2Proof/Machine/Bytes.lean ====
section
/-! DEFINITION. Bytes, bits and the CRC of the external formats (sections 0.6 and 11.8, R76, R125, R126). -/

namespace Sys2Proof.Machine

/-- The lowest k bytes of a number, most significant first (section 0.6). -/
def beBytes : Nat → Nat → List Byte
  | 0, _ => []
  | k + 1, n => BitVec.ofNat 8 (n / 256 ^ k) :: beBytes k n

/-- The number that bytes spell, most significant first (section 0.6). -/
def natOfBytes (bytes : List Byte) : Nat :=
  bytes.foldl (fun acc b => acc * 256 + b.toNat) 0

/-- A signed field of k bytes, two's complement (section 11.8). -/
def beInt (k : Nat) (i : Int) : List Byte :=
  beBytes k (i % ((256 ^ k : Nat) : Int)).toNat

/-- The signed number that k bytes spell, two's complement (section 11.8). -/
def intOfBytes (bytes : List Byte) : Int :=
  let n := natOfBytes bytes
  if 2 * n < 256 ^ bytes.length then (n : Int) else (n : Int) - ((256 ^ bytes.length : Nat) : Int)

/-- One byte holding a small number. -/
def byte1 (n : Nat) : Byte := BitVec.ofNat 8 n

/-- A byte holding a mark: 1 when set. -/
def flag1 (b : Bool) : Byte := if b then 1 else 0

/-- A flags byte, its flags listed from the least significant bit (section 11.8). -/
def flagsByte (flags : List Bool) : Byte :=
  byte1 (flags.foldr (fun b acc => acc * 2 + b.toNat) 0)

/-- A pair byte: variant × 16 + journal (section 11.8). -/
def pairByte (op : Op) : Byte := byte1 (op.variant * 16 + op.journal)

/-- The pair a pair byte spells (section 11.8). A byte can name a variant of 8 to 15, which Table 7-1 does not have (log
entry 49). -/
def pairOf (b : Byte) : Op := ⟨b.toNat / 16, b.toNat % 16⟩

/-- A station byte: the station number, 0 for none (section 11.8). -/
def stationByte : Option Nat → Byte
  | none => 0
  | some n => byte1 n

/-- The station a station byte names (section 11.8). -/
def stationOf (b : Byte) : Option Nat :=
  if b.toNat = 0 then none else some b.toNat

/-- One bit of the CRC register: shifted out at the top, x^16 + x^12 + x^5 + 1 taken off (R76). -/
def crcShift (crc : BitVec 16) : BitVec 16 :=
  if crc.msb then (crc <<< 1) ^^^ 0x1021#16 else crc <<< 1

/-- One byte into the CRC register, most significant bit first (R76). -/
def crcByte (crc : BitVec 16) (b : Byte) : BitVec 16 :=
  (List.range 8).foldl (fun c _ => crcShift c) (crc ^^^ (b.setWidth 16 <<< 8))

/-- The CRC-16 of the flash record and of the link frames: started from all ones, no reflection, no final
inversion (R76, R126). -/
def crc16 (bytes : List Byte) : BitVec 16 :=
  bytes.foldl crcByte 0xFFFF#16

/-- The two bytes of a CRC field. -/
def crcBytes (bytes : List Byte) : List Byte := bytes16 (crc16 bytes)

/-- The bits of a byte, most significant first (section 0.6). -/
def byteBits (b : Byte) : List Bool :=
  [b.getLsbD 7, b.getLsbD 6, b.getLsbD 5, b.getLsbD 4, b.getLsbD 3, b.getLsbD 2, b.getLsbD 1, b.getLsbD 0]

/-- The number that bits spell, most significant first. -/
def natOfBits (bits : List Bool) : Nat :=
  bits.foldl (fun acc b => acc * 2 + b.toNat) 0

/-- The whole bytes that bits spell, most significant first; bits of an unfinished byte are left out (R173). -/
def bitsToBytes : List Bool → List Byte
  | b7 :: b6 :: b5 :: b4 :: b3 :: b2 :: b1 :: b0 :: rest =>
    byte1 (natOfBits [b7, b6, b5, b4, b3, b2, b1, b0]) :: bitsToBytes rest
  | _ => []

/-- Manchester coding of a bit: a 1 is high then low, a 0 low then high (R125). -/
def manchester (b : Bool) : Bool × Bool := (b, !b)

/-- The bits of the received cells, up to the first bit time without its middle edge (R134). -/
def cellBits : List (Bool × Bool) → List Bool
  | [] => []
  | (first, second) :: rest => if first = second then [] else first :: cellBits rest

/-- The opening pattern 1010 1010 1100 1101 of a frame (R126). -/
def openingPattern : List Byte := [0xAA#8, 0xCD#8]

/-- The bit cells that bytes put on a line (R125). -/
def cellsOf (bytes : List Byte) : List (Bool × Bool) :=
  (bytes.flatMap byteBits).map manchester

/-- Cut bytes into groups of k + 1, leaving out an unfinished group; `fuel` bounds the groups. -/
def chunks (k : Nat) : Nat → List Byte → List (List Byte)
  | 0, _ => []
  | fuel + 1, bytes =>
    if bytes.length ≤ k then [] else bytes.take (k + 1) :: chunks k fuel (bytes.drop (k + 1))

end Sys2Proof.Machine
end

