-- ==== Sys2Proof/Machine/Operands.lean ====
section
/-! DEFINITION. The operand forms of the requests: the names a payload byte stands for (Table 11-5) and the figures of
CONFIGURE (Table 11-8). -/

namespace Sys2Proof.Machine

/-- A wheelhead byte; none outside 0–1 (R175). -/
def wheelheadOf (b : Byte) : Option Wheelhead :=
  if b = 0 then some .w0 else if b = 1 then some .w1 else none

/-- A tool slot byte; none outside 0–7 (R4). -/
def slotOf (b : Byte) : Option (Fin 8) :=
  if h : b.toNat < 8 then some ⟨b.toNat, h⟩ else none

/-- A kind byte; none outside its list (Table 11-5). -/
def kindOf (b : Byte) : Option ToolKind :=
  if b = 0 then some .wheel else if b = 1 then some .dresser else none

/-- A position byte; none outside its list (Table 11-5). -/
def seatOf (b : Byte) : Option Seat :=
  if b = 0 then some (.wheelhead .w0) else if b = 1 then some (.wheelhead .w1)
  else if b = 2 then some (.dresser .w0) else if b = 3 then some (.dresser .w1)
  else if b = 4 then some .rack else none

/-- A class byte; none outside its list (Table 11-5). -/
def classOf (b : Byte) : Option JournalClass :=
  if b = 0 then some .main else if b = 1 then some .pin else if b = 2 then some .endFeature else none

/-- Whether a kind may stand at a position (R2, Table 1-4). -/
def seatSuits : ToolKind → Seat → Bool
  | .wheel, .dresser _ => false
  | .dresser, .wheelhead _ => false
  | _, _ => true

/-- A (variant, journal) pair of a request; none when either is out of range (Tables 6-3, 7-2, 7-3). -/
def opOf (variant journal : Byte) : Option Op :=
  if variant.toNat < 8 ∧ journal.toNat < 16 then some ⟨variant.toNat, journal.toNat⟩ else none

/-- The place of an ASSIGN (R111). -/
inductive ListPlace where
  | back
  | before (op : Op)
deriving DecidableEq, Repr

/-- The place bytes of an ASSIGN; none when neither BACK nor BEFORE, or when a BEFORE pair is out of range (R111). -/
def listPlaceOf (place beforeVariant beforeJournal : Byte) : Option ListPlace :=
  if place = 0 then some .back
  else if place = 1 then (opOf beforeVariant beforeJournal).map .before
  else none

/-! ## The figures of CONFIGURE -/

/-- A figure's range and default (Tables 1-3 to 11-4). -/
structure FigureRange where
  lo : Int
  hi : Int
  default : Int
deriving DecidableEq, Repr

/-- The ranges and defaults of figures 1 to 36 (Table 11-8 and the tables it names). Figure 1, station, has no
default: CONFIGURE must carry it. -/
def figureRanges : List FigureRange :=
  [⟨1, 16, 0⟩, ⟨250, 1000, 500⟩, ⟨50, 1000, 200⟩, ⟨1, 24, 20⟩] ++
  [⟨1, 50, 10⟩, ⟨1, 4095, 80⟩, ⟨1, 4095, 100⟩, ⟨1, 4095, 60⟩, ⟨0, 65535, 1000⟩, ⟨1, 255, 10⟩, ⟨1, 4095, 100⟩] ++
  [⟨-1, 1, 1⟩, ⟨-1, 1, 1⟩, ⟨1, 1023, 80⟩, ⟨1, 4095, 800⟩] ++
  [⟨2, 64, 8⟩, ⟨2, 255, 40⟩, ⟨1, 4095, 3200⟩, ⟨1, 65535, 2000⟩, ⟨1, 60, 20⟩] ++
  [⟨0, 500, 4⟩, ⟨1024, 4096, 1331⟩, ⟨1, 15, 3⟩, ⟨0, 4095, 200⟩, ⟨0, 4095, 300⟩, ⟨20, 500, 100⟩, ⟨1, 1000, 40⟩] ++
  [⟨0, 2, 2⟩, ⟨0, 2, 1⟩, ⟨0, 2, 2⟩, ⟨0, 2, 2⟩, ⟨0, 2, 1⟩, ⟨0, 2, 2⟩, ⟨0, 2, 1⟩, ⟨0, 2, 2⟩, ⟨0, 2, 2⟩]

/-- A value clamped to the nearer end of a range (R177). -/
def clamp (lo hi v : Int) : Int := if v < lo then lo else if hi < v then hi else v

/-- A link_rate taken: 250, 500 or 1000 kbit/s, a figure between two of them as the lower (Table 8-1). -/
def takeLinkRate (v : Int) : Int := if v < 500 then 250 else if v < 1000 then 500 else 1000

/-- The value of figure `number` that CONFIGURE takes from a listed value (R177). -/
def takeFigure (number : Nat) (v : Int) : Int :=
  if number = 2 then takeLinkRate v
  else match figureRanges[number - 1]? with
    | some r => clamp r.lo r.hi v
    | none => v

/-- The value listed for figure `number`, if any. -/
def listedFigure (figures : List (Byte × BitVec 32)) (number : Nat) : Option Int :=
  (figures.find? (fun f => f.1.toNat == number)).map (fun f => f.2.toInt)

/-- The figure numbers 1 to 36. -/
def figureNumbers : List Nat := (List.range 36).map (· + 1)

/-- The value of figure `number` under a figure list: the listed one as taken, or the default (R177). -/
def figureValue (figures : List (Byte × BitVec 32)) (number : Nat) : Int :=
  match listedFigure figures number with
  | some v => takeFigure number v
  | none => ((figureRanges[number - 1]?).map FigureRange.default).getD 0

/-- The figure numbers whose listed values CONFIGURE does not take as they are, in rising order (R177). -/
def clampedFigures (figures : List (Byte × BitVec 32)) : List Nat :=
  figureNumbers.filter fun number =>
    match listedFigure figures number with
    | some v => takeFigure number v != v
    | none => false

/-- Check 1 of R177: a figure number outside 1–36, or one appearing twice. -/
def figureNumbersBad (figures : List (Byte × BitVec 32)) : Bool :=
  figures.any (fun f => f.1.toNat < 1 || 36 < f.1.toNat) || !(decide (figures.map (·.1)).Nodup)

/-- Check 2 of R177: station absent or outside 1–16. -/
def stationFigureBad (figures : List (Byte × BitVec 32)) : Bool :=
  match listedFigure figures 1 with
  | none => true
  | some v => v < 1 || 16 < v

/-- Check 3 of R177: a dir other than +1 or −1, or a routing figure other than 0, 1 or 2. -/
def dirOrRoutingBad (figures : List (Byte × BitVec 32)) : Bool :=
  figures.any fun f =>
    let number := f.1.toNat
    let v := f.2.toInt
    if number = 12 ∨ number = 13 then v != 1 && v != -1
    else if 28 ≤ number ∧ number ≤ 36 then v < 0 || 2 < v
    else false

/-- A routing figure (Table 11-5). -/
def routeOf (v : Int) : Route := if v = 1 then .alert else if v = 2 then .note else .neither

/-- A routing's figure (Table 11-5). -/
def Route.figure : Route → Int
  | .neither => 0
  | .alert => 1
  | .note => 2

/-- The configuration that a value for each figure number gives (Table 11-8). -/
def figuresOf (value : Nat → Int) : Figures :=
  let nat (number : Nat) : Nat := (value number).toNat
  { station := nat 1, linkRate := nat 2, statusPeriod := nat 3, capacity := nat 4, warnPct := nat 5, bMain := nat 6
    bPin := nat 7, bEnd := nat 8, overrunAllowance := nat 9, kWheel := nat 10, kRoll := nat 11, dir0 := value 12
    dir1 := value 13, contactMargin := nat 14, aeDress := nat 15, nLow := nat 16, nHigh := nat 17, aeCrash := nat 18
    voidMargin := nat 19, maxGrind := nat 20, dressTol := nat 21, dressRatio := nat 22, dressCount := nat 23
    marginLow := nat 24, marginHigh := nat 25, wCall := nat 26, horizon := nat 27
    routing :=
      { reply := routeOf (value 28), grindHold := routeOf (value 29), grindOther := routeOf (value 30)
        dressRecord := routeOf (value 31), toolNotice := routeOf (value 32), dressDue := routeOf (value 33)
        swapNotice := routeOf (value 34), linkNotice := routeOf (value 35), storeNotice := routeOf (value 36) } }

/-- The configuration an accepted CONFIGURE takes (R177). -/
def takeFigures (figures : List (Byte × BitVec 32)) : Figures := figuresOf (figureValue figures)

/-- Every figure at its default. It stands in for the configuration only where none is in force, which no block but
the counters (dirn as +1, R24) and the routing (R180) reads. -/
def defaultFigures : Figures := takeFigures []

/-- The 36 values of a configuration, in figure-number order (Table 11-11, item 2). -/
def Figures.values (c : Figures) : List Int :=
  [(c.station : Int), c.linkRate, c.statusPeriod, c.capacity] ++
  [(c.warnPct : Int), c.bMain, c.bPin, c.bEnd, c.overrunAllowance, c.kWheel, c.kRoll] ++
  [c.dir0, c.dir1, (c.contactMargin : Int), c.aeDress] ++
  [(c.nLow : Int), c.nHigh, c.aeCrash, c.voidMargin, c.maxGrind] ++
  [(c.dressTol : Int), c.dressRatio, c.dressCount, c.marginLow, c.marginHigh, c.wCall, c.horizon] ++
  [c.routing.reply, c.routing.grindHold, c.routing.grindOther, c.routing.dressRecord, c.routing.toolNotice,
    c.routing.dressDue, c.routing.swapNotice, c.routing.linkNotice, c.routing.storeNotice].map Route.figure

/-- The base cost B of a class (R11). -/
def Figures.baseCost (c : Figures) : JournalClass → Nat
  | .main => c.bMain
  | .pin => c.bPin
  | .endFeature => c.bEnd

/-- The sign dirn of a wheelhead (R22). -/
def Figures.dir (c : Figures) : Wheelhead → Int
  | .w0 => c.dir0
  | .w1 => c.dir1

end Sys2Proof.Machine
end

