-- ==== Sys2Proof/Machine/Ops.lean ====
section
/-! DEFINITION. The named operations over the part's state that every command shares: writing a block, looking a tool
up, placing an outbound message, offering a frame to the transmit queue, distances and time. -/

namespace Sys2Proof.Machine

/-! ## Writing a block of the state -/

/-- Replace the record of a tool slot. -/
def State.setTool (s : State) (slot : Fin 8) (t : Option Tool) : State :=
  { s with tools := s.tools.set slot t }

/-- Replace the position counter of a wheelhead. -/
def State.setCounter (s : State) (n : Wheelhead) (c : Counter) : State :=
  { s with counters := s.counters.set n c }

/-- Replace the check channel of a wheelhead. -/
def State.setChannel (s : State) (n : Wheelhead) (c : Channel) : State :=
  { s with channels := s.channels.set n c }

/-- Replace what a check channel is doing. -/
def State.setActivity (s : State) (n : Wheelhead) (a : Activity) : State :=
  s.setChannel n { s.channels.get n with activity := a }

/-- Replace the teach buffer of a check channel. -/
def State.setTeach (s : State) (n : Wheelhead) (b : Option TeachBuffer) : State :=
  s.setChannel n { s.channels.get n with teach := b }

/-- Replace the envelope store. -/
def State.setStore (s : State) (x : Store) : State := { s with store := x }

/-- Replace the sister unit. -/
def State.setSister (s : State) (x : Sister) : State := { s with sister := x }

/-- Replace the link controller. -/
def State.setLink (s : State) (x : Link) : State := { s with link := x }

/-- Replace the machine port. -/
def State.setPort (s : State) (x : Port) : State := { s with port := x }

/-- Mark the station's status changed (R145). -/
def State.markStatus (s : State) : State := s.setSister { s.sister with mark := true }

/-! ## Configuration, distances and time -/

/-- The configuration in force. In UNCONFIGURED no block but the counters reads one, and dirn is +1 there (R24). -/
def State.figures (s : State) : Figures := s.config.getD defaultFigures

/-- The distance from one position to another, as a signed 32-bit difference (R24). -/
def distance (start finish : Pos) : Int := (finish - start).toInt

/-- The advance of wheelhead n toward the part from one position to another (R24). -/
def State.advance (s : State) (n : Wheelhead) (start finish : Pos) : Int :=
  distance start finish * s.figures.dir n

/-- Bring the model's clock at least to a moment that an expiry event says has come (log entry 3). -/
def State.reach (s : State) (moment : Nat) : State := { s with clock := max s.clock moment }

/-- Half milliseconds in a number of milliseconds. -/
def halfMs (ms : Nat) : Nat := 2 * ms

/-! ## The tool table -/

/-- The eight tool slots, lowest first. -/
def toolSlots : List (Fin 8) := [0, 1, 2, 3, 4, 5, 6, 7]

/-- The tool of a slot that meets a condition. -/
def State.toolIf (s : State) (cond : Tool → Bool) (slot : Fin 8) : Bool :=
  match s.tools.get slot with
  | some t => cond t
  | none => false

/-- The lowest slot whose tool meets a condition. -/
def State.findTool (s : State) (cond : Tool → Bool) : Option (Fin 8) :=
  toolSlots.find? (s.toolIf cond)

/-- The slot of the wheel at WHEELHEADn (R2). -/
def State.wheelAt (s : State) (n : Wheelhead) : Option (Fin 8) :=
  s.findTool fun t => t.kind == .wheel && t.seat == .wheelhead n

/-- The slot of the dresser roll at DRESSERn (R2). -/
def State.rollAt (s : State) (n : Wheelhead) : Option (Fin 8) :=
  s.findTool fun t => t.kind == .dresser && t.seat == .dresser n

/-- The wheelhead at which the tool of a slot stands (R110). -/
def State.wheelheadOfSlot (s : State) (slot : Fin 8) : Option Wheelhead :=
  match s.tools.get slot with
  | some t => match t.seat with
    | .wheelhead n => some n
    | _ => none
  | none => none

/-- The sister group of the tool in a slot. -/
def State.groupOfSlot (s : State) (slot : Fin 8) : Option Nat :=
  (s.tools.get slot).bind Tool.group

/-- Whether a wheel's state lets it take over or offer: FRESH or IN_SERVICE. -/
def ToolState.sound : ToolState → Bool
  | .fresh => true
  | .inService => true
  | _ => false

/-- The wheels at the wheelheads, in slot order (R142). -/
def State.headWheels (s : State) : List (Fin 8 × Tool) :=
  toolSlots.filterMap fun slot =>
    match s.tools.get slot with
    | some t => match t.kind, t.seat with
      | .wheel, .wheelhead _ => some (slot, t)
      | _, _ => none
    | none => none

/-- The last contact of a class (Table 1-1). -/
def Contacts.get (c : Contacts) : JournalClass → Option Pos
  | .main => c.main
  | .pin => c.pin
  | .endFeature => c.endFeature

/-- Store the last contact of a class (R17). -/
def Contacts.set (c : Contacts) (cls : JournalClass) (x : Option Pos) : Contacts :=
  match cls with
  | .main => { c with main := x }
  | .pin => { c with pin := x }
  | .endFeature => { c with endFeature := x }

/-- No last contact of any class (R5, R23). -/
def Contacts.absent : Contacts := ⟨none, none, none⟩

/-- The TOOL NOTICE of a slot as it stands (R19). -/
def State.noticeOf (s : State) (slot : Fin 8) : ToolNotice :=
  { slot := slot
    tool := (s.tools.get slot).map fun t =>
      { id := t.id, kind := t.kind, seat := t.seat, group := t.group, state := t.state, life := t.life
        overrun := t.overrun, dressBlocked := t.dressBlocked } }

/-! ## The outbound queue (R182, R183) -/

/-- Whether a message is a record (R183). -/
def OutMsg.isRecord : OutMsg → Bool
  | .grindRecord _ => true
  | .unwatched _ _ => true
  | .dressRecord _ => true
  | _ => false

/-- Whether a message is a REPLY. -/
def OutMsg.isReply : OutMsg → Bool
  | .reply _ _ => true
  | _ => false

/-- Whether a message is a notice. -/
def OutMsg.isNotice (m : OutMsg) : Bool := !m.isRecord && !m.isReply

/-- Whether a message is the TOOL NOTICE of a slot. -/
def OutMsg.isToolNoticeFor (slot : Fin 8) : OutMsg → Bool
  | .toolNotice n => n.slot == slot
  | _ => false

/-- The number of records in the outbound queue. -/
def Port.records (p : Port) : Nat := p.outbound.countP OutMsg.isRecord

/-- The message being sent: the head of the outbound queue while it is being clocked out (R174). -/
def Port.beingSent (p : Port) : List OutMsg := if p.sending then p.outbound.take 1 else []

/-- The messages that may be dropped or replaced: all but the message being sent (R183). -/
def Port.waiting (p : Port) : List OutMsg := if p.sending then p.outbound.drop 1 else p.outbound

/-- Remove the oldest waiting message that meets a condition, passing over the message being sent. -/
def Port.removeWaiting (p : Port) (cond : OutMsg → Bool) : Port :=
  { p with outbound := p.beingSent ++ p.waiting.eraseP cond }

/-- Drop the oldest record, setting RECORDS_LOST; none when there is none to drop (R183). -/
def Port.dropRecord (p : Port) : Option Port :=
  if p.waiting.any OutMsg.isRecord then some { p.removeWaiting OutMsg.isRecord with recordsLost := true } else none

/-- Drop the oldest notice, setting NOTICES_LOST; none when there is none to drop (R183). -/
def Port.dropNotice (p : Port) : Option Port :=
  if p.waiting.any OutMsg.isNotice then some { p.removeWaiting OutMsg.isNotice with noticesLost := true } else none

/-- Step 1 of R183: a record placed while 12 are held drops the oldest record. -/
def Port.roomForRecord (p : Port) (m : OutMsg) : Port :=
  if m.isRecord && decide (12 ≤ p.records) then p.dropRecord.getD p else p

/-- Step 2 of R183: any message placed while 16 are held drops the oldest record, or else the oldest notice; none
when neither can be dropped. -/
def Port.roomForMessage (p : Port) : Option Port :=
  if p.outbound.length < 16 then some p
  else match p.dropRecord with
    | some p' => some p'
    | none => p.dropNotice

/-- Step 3 of R183: an arriving record or notice is itself dropped. -/
def Port.loseArriving (p : Port) (m : OutMsg) : Port :=
  if m.isRecord then { p with recordsLost := true }
  else if m.isNotice then { p with noticesLost := true }
  else p

/-- Place a message at the back of the outbound queue (R182, R183). -/
def Port.place (p : Port) (m : OutMsg) : Port :=
  match (p.roomForRecord m).roomForMessage with
  | some p' => { p' with outbound := p'.outbound ++ [m] }
  | none => (p.roomForRecord m).loseArriving m

/-- Place a TOOL NOTICE: it waits aside while the slot's notice is being sent, and otherwise replaces a waiting one
and joins the back (R182). -/
def Port.placeToolNotice (p : Port) (n : ToolNotice) : Port :=
  if p.beingSent.any (OutMsg.isToolNoticeFor n.slot) then
    { p with pendingNotices := p.pendingNotices.set n.slot (some n) }
  else (p.removeWaiting (OutMsg.isToolNoticeFor n.slot)).place (.toolNotice n)

/-- Place a message of any kind but a TOOL NOTICE. -/
def State.send (s : State) (m : OutMsg) : State := s.setPort (s.port.place m)

/-- Queue the TOOL NOTICE of a slot as it stands (R19). -/
def State.sendToolNotice (s : State) (slot : Fin 8) : State :=
  s.setPort (s.port.placeToolNotice (s.noticeOf slot))

/-- Queue a SWAP NOTICE (R171). -/
def State.sendSwap (s : State) (n : SwapNotice) : State := s.send (.swapNotice n)

/-- Queue a LINK NOTICE (R140). -/
def State.sendLinkNotice (s : State) (n : LinkNotice) : State := s.send (.linkNotice n)

/-- Answer a request ACCEPTED (R181). -/
def State.accept (s : State) (code : Byte) (contents : Contents := .plain) : State :=
  s.send (.reply code (.accepted contents))

/-- Answer a request REFUSED (R181). -/
def State.refuse (s : State) (code : Byte) (reason : Reason) : State :=
  s.send (.reply code (.refused reason))

/-! ## The transmit queue (R128 to R130) -/

/-- The kind of a frame (Table 8-2). -/
def FrameBody.kind : FrameBody → FrameKind
  | .status _ => .status
  | .call _ => .call
  | .offer _ => .offer
  | .award _ _ _ => .award
  | .taken _ _ => .taken
  | .decline _ _ _ => .decline
  | .release _ _ => .release

/-- Whether a frame is a STATUS. -/
def FrameBody.isStatus : FrameBody → Bool
  | .status _ => true
  | _ => false

/-- Whether a frame is of the urgent class (Table 8-2). -/
def FrameBody.isUrgent : FrameBody → Bool
  | .status _ => false
  | .call c => c.urgent
  | .offer o => o.urgent
  | _ => true

/-- The tag of a hand-off frame (R131, R132). -/
def FrameBody.tag : FrameBody → Option (BitVec 8)
  | .status _ => none
  | .call c => some c.tag
  | .offer o => some o.tag
  | .award tag _ _ => some tag
  | .taken _ tag => some tag
  | .decline _ tag _ => some tag
  | .release _ _ => none

/-- The number of frame places held (R128). -/
def Link.framesHeld (l : Link) : Nat := l.queue.countP fun f => !f.body.isStatus

/-- Whether a frame is being sent (R128). -/
def Link.isSending (l : Link) : Bool := l.queue.any QueuedFrame.sending

/-- Offer a frame of the urgent or normal class to the transmit queue; the flag says it was discarded (R129). -/
def State.offerFrame (s : State) (body : FrameBody) : State × Bool :=
  if s.link.framesHeld < 8 then
    (s.setLink { s.link with queue := s.link.queue ++ [{ body := body, attempts := 0, sending := false }] }, false)
  else (s.sendLinkNotice (.queueFull body.kind), true)

/-- Offer a frame whose outcome the sister unit does not act on. -/
def State.queueFrame (s : State) (body : FrameBody) : State := (s.offerFrame body).1

end Sys2Proof.Machine
end

