-- ==== Sys2Proof/Machine/Flags.lean ====
section
/-! DEFINITION. The marks, flags and output pins of the part: the advertised figures and the status-changed mark (R142 to
R145), the sticky flags (R184), the feed-hold lines (R60), the interrupt lines (R185) and the driver enables (R125). -/

namespace Sys2Proof.Machine

/-! ## Free places and reclaim groups -/

/-- The operations reserved: the sum of the ops counts of the reservations (R143). -/
def Sister.reservedOps (x : Sister) : Nat :=
  (x.reservations.toList.map fun r => match r with
    | some r => r.opsCount
    | none => 0).sum

/-- Operations in the list plus operations reserved (R111, R143, R150). -/
def Sister.occupancy (x : Sister) : Nat := x.opList.length + x.reservedOps

/-- The free places of a station with capacity C (R143). -/
def freePlaces (capacity : Nat) (x : Sister) : Nat := capacity - x.occupancy

/-- The free places this station advertises (R143). -/
def State.free (s : State) : Nat := freePlaces s.figures.capacity s.sister

/-- Whether this station reclaims group g (R144). -/
def State.reclaims (s : State) (g : Nat) : Bool :=
  s.headWheels.any (fun w => w.2.group == some g && w.2.state.sound) && s.sister.lent.any (fun e => e.group == g)

/-- The reclaim groups, in rising order (R144). -/
def State.reclaimGroups (s : State) : List Nat := ((List.range 31).map (· + 1)).filter s.reclaims

/-- Set the status-changed mark when the free places or the reclaim groups differ from those before (R143, R144). -/
def State.markFigures (before after : State) : State :=
  if freePlaces after.figures.capacity before.sister ≠ after.free ∨ before.reclaimGroups ≠ after.reclaimGroups then
    after.markStatus
  else after

/-! ## The STATUS place -/

/-- The state byte of a tool (Table 11-5); VACANT is 0. -/
def ToolState.code : ToolState → Nat
  | .fresh => 1
  | .inService => 2
  | .worn => 3
  | .spent => 4
  | .broken => 5

/-- The STATUS contents as the station stands (R142). -/
def State.statusBody (s : State) : StatusBody :=
  { period := s.figures.statusPeriod
    free := s.free
    tools := s.headWheels.filterMap fun w => w.2.group.map fun g =>
      { group := g, state := w.2.state.code, reserved := (s.sister.reservations.get w.1).isSome, life := w.2.life }
    held := s.sister.opList.filterMap fun e => e.lender.map fun l => { op := e.op, lender := l }
    reclaim := s.reclaimGroups }

/-- Whether a STATUS is being sent (R130). -/
def Link.statusSending (l : Link) : Bool := l.queue.any fun f => f.body.isStatus && f.sending

/-- The STATUS waiting in its place, if any (R130). -/
def Link.waitingStatus (l : Link) : Option QueuedFrame := l.queue.find? fun f => f.body.isStatus && !f.sending

/-- Put a STATUS into the STATUS place: it keeps the attempt count of a STATUS it replaces, and its age is now
(R130). -/
def Link.placeStatus (l : Link) (body : StatusBody) : Link :=
  let attempts := match l.waitingStatus with
    | some f => f.attempts
    | none => 0
  { l with queue := l.queue.filter (fun f => !(f.body.isStatus && !f.sending)) ++
      [{ body := .status body, attempts := attempts, sending := false }] }

/-- Offer a STATUS: the offer clears the mark and restarts the period timer (R145). -/
def State.offerStatus (s : State) : State :=
  (s.setLink (s.link.placeStatus s.statusBody)).setSister
    { s.sister with mark := false, period := some (s.clock + halfMs s.figures.statusPeriod) }

/-- Whether 10 ms have passed since the last STATUS was reported SENT, or none has been sent since START (R145). -/
def State.statusSpaced (s : State) : Bool :=
  match s.sister.lastSent with
  | none => true
  | some t => decide (t + halfMs 10 ≤ s.clock)

/-- Whether a change of status calls for an offer now: the second and third cases of R145. -/
def State.statusDue (s : State) : Bool :=
  s.station == .running && s.sister.mark && !s.link.statusSending &&
    (s.link.waitingStatus.isSome || s.statusSpaced)

/-- The end of a step: the changes of R143 and R144 set the mark, and a STATUS that is due is offered at once
(R145; log entry 4). -/
def State.finish (before after : State) : State :=
  let s := before.markFigures after
  if s.statusDue then s.offerStatus else s

/-! ## Sticky flags -/

/-- QUERY STATION clears every sticky flag it has reported (R184). -/
def State.clearSticky (s : State) : State :=
  let clear (c : Counter) : Counter := { c with fault := false }
  { s with
    port := { s.port with inboundLost := false, recordsLost := false, noticesLost := false }
    link := { s.link with duplicate := false }
    counters := ⟨clear s.counters.w0, clear s.counters.w1⟩ }

/-! ## Output pins -/

/-- HOLDn_N is asserted: channel n is HELD or STOPPED, or the station is not RUNNING (R60). -/
def State.holdAsserted (s : State) (n : Wheelhead) : Bool :=
  (s.channels.get n).state == .held || (s.channels.get n).state == .stopped || s.station != .running

/-- The route of a message's class (Table 11-4). -/
def Routing.route (r : Routing) : OutMsg → Route
  | .reply _ _ => r.reply
  | .grindRecord g => match g.verdict with
    | .hold _ => r.grindHold
    | _ => r.grindOther
  | .unwatched _ _ => r.grindOther
  | .dressRecord _ => r.dressRecord
  | .toolNotice _ => r.toolNotice
  | .dressDue _ => r.dressDue
  | .swapNotice _ => r.swapNotice
  | .linkNotice _ => r.linkNotice
  | .storeNotice _ => r.storeNotice

/-- ALERT_N is low (R185). -/
def State.alertLow (s : State) : Bool := s.port.outbound.any fun m => s.figures.routing.route m == .alert

/-- NOTE_N is low (R185). -/
def State.noteLow (s : State) : Bool := s.port.outbound.any fun m => s.figures.routing.route m == .note

/-- Both driver enables are asserted: the station is sending a frame (R125). -/
def State.driversEnabled (s : State) : Bool := s.link.isSending

end Sys2Proof.Machine
end

