-- ==== Sys2Proof/Machine/HandOff.lean ====
section
/-! DEFINITION. The sister hand-off on the calling side (chapter 10): free operations, leaving marks, triggers, the local
swap, opening and ending a hand-off, escalation, cancellation, and the reports of the transmit queue. -/

namespace Sys2Proof.Machine

/-! ## The operation list -/

/-- Whether a pair belongs to a standing record (R154). -/
def Sister.covered (x : Sister) (op : Op) : Bool := x.standing.any fun r => decide (op ∈ r.pairs)

/-- The free operations of a slot, in list order: ACTIVE and not covered (R154). -/
def Sister.freeOps (x : Sister) (slot : Fin 8) : List OpEntry :=
  x.opList.filter fun e => e.slot == slot && e.status == .active && !x.covered e.op

/-- The entry of a pair in the operation list (R118). -/
def Sister.entry (x : Sister) (op : Op) : Option OpEntry := x.opList.find? fun e => e.op == op

/-- Whether a pair is in the operation list. -/
def Sister.listed (x : Sister) (op : Op) : Bool := x.opList.any fun e => e.op == op

/-- Whether a pair is in the lent list. -/
def Sister.isLent (x : Sister) (op : Op) : Bool := x.lent.any fun e => e.op == op

/-- Change the entries that meet a condition, each in its place (R108). -/
def Sister.mapEntries (x : Sister) (sel : OpEntry → Bool) (f : OpEntry → OpEntry) : Sister :=
  { x with opList := x.opList.map fun e => if sel e then f e else e }

/-- Whether an entry's pair is among some pairs. -/
def OpEntry.among (e : OpEntry) (ops : List Op) : Bool := decide (e.op ∈ ops)

/-- The members of a list without repeats, in order of first occurrence. -/
def distinct {α : Type} [DecidableEq α] : List α → List α
  | [] => []
  | x :: rest => x :: (distinct rest).filter fun y => !decide (y = x)

/-- The group that all of some groups share, if they share one (R171; log entry 11). -/
def commonGroup (groups : List (Option Nat)) : Option Nat :=
  match distinct groups with
  | [g] => g
  | _ => none

/-- A SWAP NOTICE about some entries of the list, naming the first two of their slots (R171; log entry 11). -/
def State.swapFor (s : State) (kind : SwapKind) (peer : Option Nat) (entries : List OpEntry) : SwapNotice :=
  let slots := distinct (entries.map OpEntry.slot)
  { kind := kind, group := commonGroup (entries.map fun e => s.groupOfSlot e.slot), slot := slots[0]?
    slot2 := slots[1]?, peer := peer, moved := entries.map OpEntry.op, dropped := [] }

/-! ## Leaving marks (R115, R116) -/

/-- Queue one RELEASE for each lender of the departing entries marked RECLAIM (R115, R170). -/
def State.releaseToLenders (s : State) (leaving : List OpEntry) : State :=
  let reclaimed := leaving.filter fun e => e.mark == some .reclaim
  (distinct (reclaimed.filterMap OpEntry.lender)).foldl
    (fun s l => s.queueFrame (.release l ((reclaimed.filter fun e => e.lender == some l).map OpEntry.op))) s

/-- Remove the marked entries that meet a condition, in list order, with the actions their causes call for
(step 2 of R115): the RELEASE frames are offered first, then one OPS_BACK for each entry is queued (log entry 31). -/
def State.departMarked (s : State) (sel : OpEntry → Bool) : State :=
  let leaving := s.sister.opList.filter fun e => e.mark.isSome && sel e
  let gone := s.setSister { s.sister with opList := s.sister.opList.filter fun e => !(e.mark.isSome && sel e) }
  leaving.foldl (fun t e => t.sendSwap (s.swapFor .opsBack e.lender [e])) (gone.releaseToLenders leaving)

/-- Set a leaving mark on the adopted entries that meet a condition and carry none; with no part in progress they
leave at once (R116). -/
def State.markLeaving (s : State) (cause : LeaveCause) (sel : OpEntry → Bool) : State :=
  let newly (e : OpEntry) : Bool := sel e && e.mark.isNone && e.lender.isSome
  let ops := (s.sister.opList.filter newly).map OpEntry.op
  let marked := s.setSister (s.sister.mapEntries newly fun e => { e with mark := some cause })
  match s.sister.part with
  | some _ => marked
  | none => marked.departMarked fun e => e.among ops

/-- Step 1 of R166: marked operations of an ended batch leave at once when no part is in progress. -/
def State.departEnded (s : State) (ops : List Op) : State :=
  match s.sister.part with
  | some _ => s
  | none => s.departMarked fun e => e.among ops

/-! ## Batches and rounds (R157, R161) -/

/-- The open hand-off of a group (R154). -/
def Sister.openOf (x : Sister) (g : Nat) : Option HandOff := x.handOffs.find? fun h => h.group == g

/-- Put an open hand-off in its place, replacing that of its group. -/
def Sister.putHandOff (x : Sister) (h : HandOff) : Sister :=
  if (x.openOf h.group).isSome then
    { x with handOffs := x.handOffs.map fun k => if k.group == h.group then h else k }
  else { x with handOffs := x.handOffs ++ [h] }

/-- Remove the open hand-off of a group. -/
def Sister.dropHandOff (x : Sister) (g : Nat) : Sister :=
  { x with handOffs := x.handOffs.filter fun h => h.group != g }

/-- The pairs of a batch. -/
def HandOff.pairs (h : HandOff) : List Op := h.batch.map BatchOp.op

/-- The lent room: 16 less the lent entries and the operations with no lender in open hand-offs (R157). -/
def Sister.lentRoom (x : Sister) : Nat :=
  16 - x.lent.length - ((x.handOffs.filter fun h => h.lender.isNone).map fun h => h.batch.length).sum

/-- need_life of a batch, saturating at 16,777,215 (R157). -/
def Figures.needLife (c : Figures) (batch : List BatchOp) : Nat :=
  min ((batch.map fun b => c.baseCost b.cls * c.horizon).sum) 16777215

/-- Whether a trigger calls urgently (R157). -/
def TriggerKind.urgent : TriggerKind → Bool
  | .break => true
  | .dressBlocked => true
  | .wear => false
  | .dismount => false

/-- The window of a call, in ms (R157). -/
def Figures.window (c : Figures) (kind : TriggerKind) : Nat :=
  if kind.urgent then c.wCall / 2 else c.wCall

/-- The CALL of a hand-off's current round (R157). -/
def State.callOf (s : State) (h : HandOff) : FrameBody :=
  .call { tag := h.tag, group := h.group, urgent := h.trigger.urgent, window := s.figures.window h.trigger
          needPlaces := h.needPlaces, needLife := h.needLife
          ops := h.batch.map fun b => { op := b.op, cls := b.cls, lender := h.lender } }

/-- The station awarded under the current tag, if any (R161). -/
def HandOff.awarded (h : HandOff) : Option Nat :=
  match h.phase with
  | .calling => none
  | .awarding station => some station

/-- Hand out the tag counter's value and raise it, 255 followed by 0 (R154). -/
def State.takeTag (s : State) : BitVec 8 × State :=
  (s.sister.tag, s.setSister { s.sister with tag := s.sister.tag + 1 })

/-- A hand-off with a fresh current tag in CALLING: the old tag joins the earlier ones, the offer set is emptied and
the need figures are found anew (R161, R167). -/
def State.withNewTag (s : State) (h : HandOff) (trigger : TriggerKind) (round : Nat) : HandOff × State :=
  let (tag, s') := s.takeTag
  ({ h with
      trigger := trigger, round := round, phase := .calling, tag := tag, earlier := h.earlier ++ [(h.tag, h.awarded)]
      offers := [], timer := none, needPlaces := h.batch.length, needLife := s.figures.needLife h.batch }, s')

/-- The standing record that replaces a FAILED hand-off (R166). -/
def HandOff.toStanding (h : HandOff) : Standing :=
  { group := h.group, slot := h.slot, seat := h.seat, trigger := h.trigger, lender := h.lender, pairs := h.pairs
    needPlaces := h.needPlaces, needLife := h.needLife }

/-- A hand-off ends FAILED: its operations become ACTIVE after WEAR and ORPHAN otherwise, a standing record takes its
place, NO_SISTER is queued, and step 1 of R166 follows. The notice and the record name the whole batch, an operation that has
left the list among it (log entry 53). -/
def State.failHandOff (s : State) (h : HandOff) : State :=
  let status : OpStatus := if h.trigger = .wear then .active else .orphan
  let x := (s.sister.dropHandOff h.group).mapEntries
    (fun e => e.among h.pairs && e.status == .handing) (fun e => { e with status := status })
  ((s.setSister { x with standing := x.standing ++ [h.toStanding] }).sendSwap
    { kind := .noSister, group := some h.group, slot := some h.slot, slot2 := none, peer := none, moved := h.pairs
      dropped := [] }).departEnded h.pairs

/-- Put a hand-off in CALLING and offer its CALL. A CALL discarded at the offer ends its round at once (R157, R129):
below round 3 the next round calls, and at round 3 the hand-off ends FAILED. The flag says it is open. -/
def State.placeCall : Nat → HandOff → State → State × Bool
  | fuel, h, s =>
    let (t, discarded) := (s.setSister (s.sister.putHandOff h)).offerFrame (s.callOf h)
    if !discarded then (t, true)
    else match fuel with
      | 0 => (t.failHandOff h, false)
      | fuel + 1 =>
        if h.round < 3 then
          let (h', t') := t.withNewTag h h.trigger (h.round + 1)
          State.placeCall fuel h' t'
        else (t.failHandOff h, false)

/-- How an attempt to open a hand-off came out. -/
inductive Opening where
  | opened
  | noLentRoom
  | failed
deriving DecidableEq, Repr

/-- Open a hand-off for a batch of these operations of one lender (R157). -/
def State.openBatch (s : State) (t : Trigger) (lender : Option Nat) (ops : List BatchOp) : State × Opening :=
  let room := s.sister.lentRoom
  let noRoom := lender.isNone && decide (room = 0)
  let limit := if lender.isNone && !noRoom then min 12 room else 12
  let batch := ops.take limit
  let pairs := batch.map BatchOp.op
  let marked := s.setSister (s.sister.mapEntries (fun e => e.among pairs) fun e => { e with status := .handing })
  let h : HandOff :=
    { group := t.group, slot := t.slot, seat := t.seat, trigger := t.kind, lender := lender, batch := batch
      needPlaces := batch.length, needLife := s.figures.needLife batch, round := 1, phase := .calling
      tag := s.sister.tag, earlier := [], offers := [], timer := none }
  if noRoom then (marked.failHandOff h, .noLentRoom)
  else
    let (u, isOpen) := State.placeCall 3 h marked.takeTag.2
    (u, if isOpen then .opened else .failed)

/-- Open a hand-off for the free operations of a trigger's slot: the first fixes the batch lender (R157). -/
def State.openHandOff (s : State) (t : Trigger) : State × Opening :=
  match s.sister.freeOps t.slot with
  | [] => (s, .noLentRoom)
  | e :: rest =>
    s.openBatch t e.lender (((e :: rest).filter fun k => k.lender == e.lender).map fun k => ⟨k.op, k.cls⟩)

/-! ## Triggers (R155, R156, R166) -/

/-- The other wheelhead. -/
def otherHead : Wheelhead → Wheelhead
  | .w0 => .w1
  | .w1 => .w0

/-- The slot of a sound wheel of the trigger's group at the other wheelhead (R156). -/
def State.localSister (s : State) (t : Trigger) : Option (Fin 8) :=
  match t.seat with
  | .wheelhead n =>
    (s.wheelAt (otherHead n)).bind fun slot =>
      if s.toolIf (fun w => w.group == some t.group && w.state.sound) slot then some slot else none
  | _ => none

/-- The local swap: every free operation of the slot takes the sister's slot (R156). -/
def State.localSwap (s : State) (t : Trigger) (sister : Fin 8) : State :=
  let ops := (s.sister.freeOps t.slot).map OpEntry.op
  (s.setSister (s.sister.mapEntries (fun e => e.among ops) fun e => { e with slot := sister, status := .active })).sendSwap
    { kind := .local, group := some t.group, slot := some t.slot, slot2 := some sister, peer := none, moved := ops
      dropped := [] }

/-- The fuel of `settleGroup`: every turn of it covers an operation or takes a trigger from the queue. -/
def Sister.settleFuel (x : Sister) : Nat := 2 * (x.opList.length + x.triggers.length) + 4

/-- Cases 4 to 6 of R155 for a trigger, the follow-on of a hand-off that then fails, and the trigger queue of the
group (R166, steps 2 and 3). -/
def State.settleGroup : Nat → Nat → Option Trigger → State → State
  | 0, _, _, s => s
  | fuel + 1, g, some t, s =>
    if (s.sister.freeOps t.slot).isEmpty then State.settleGroup fuel g none s
    else match s.localSister t with
      | some sister => State.settleGroup fuel g none (s.localSwap t sister)
      | none => match s.openHandOff t with
        | (s', .opened) => s'
        | (s', .noLentRoom) => State.settleGroup fuel g none s'
        | (s', .failed) => State.settleGroup fuel g (some t) s'
  | fuel + 1, g, none, s =>
    if (s.sister.openOf g).isSome then s
    else match s.sister.triggers.find? (fun t => t.group == g) with
      | none => s
      | some t =>
        State.settleGroup fuel g (some t)
          (s.setSister { s.sister with triggers := s.sister.triggers.erase t })

/-- Steps 2 and 3 of R166 after a hand-off has ended; `follow` when a follow-on is due. -/
def State.afterEnding (s : State) (h : HandOff) (follow : Bool) : State :=
  State.settleGroup s.sister.settleFuel h.group
    (if follow then some { slot := h.slot, group := h.group, seat := h.seat, kind := h.trigger } else none) s

/-- A trigger joins the trigger queue; a slot already waiting keeps its earlier one, except that a BREAK replaces any
other kind (case 5 of R155), in its place in the queue (log entry 35). -/
def Sister.queueTrigger (x : Sister) (t : Trigger) : Sister :=
  if x.triggers.any fun q => q.slot == t.slot then
    { x with triggers := x.triggers.map fun q => if q.slot == t.slot && t.kind == .break then t else q }
  else { x with triggers := x.triggers ++ [t] }

/-- Escalation of an open WEAR hand-off by a BREAK (R167). -/
def State.escalate (s : State) (h : HandOff) : State :=
  let s1 := if h.awarded.isSome then s.queueFrame (.award h.tag h.group none) else s
  let (h', s2) := s1.withNewTag h .break 1
  let (s3, isOpen) := State.placeCall 3 h' s2
  if isOpen then s3 else s3.afterEnding h' true

/-- Case 1 of R155: the free operations of a tool with no sister group become ORPHAN. -/
def State.orphanSlot (s : State) (slot : Fin 8) : State :=
  let ops := (s.sister.freeOps slot).map OpEntry.op
  if ops.isEmpty then s
  else (s.setSister (s.sister.mapEntries (fun e => e.among ops) fun e => { e with status := .orphan })).sendSwap
    { kind := .noSister, group := none, slot := some slot, slot2 := none, peer := none, moved := ops, dropped := [] }

/-- Cases 3 to 6 of R155 for a trigger that escalates nothing. -/
def State.placeTrigger (s : State) (t : Trigger) : State :=
  let s1 := if t.kind = .break then
      s.setSister { s.sister with standing := s.sister.standing.filter fun r => !(r.slot == t.slot && r.trigger == .wear) }
    else s
  if (s1.sister.freeOps t.slot).isEmpty then s1
  else if (s1.sister.openOf t.group).isSome then s1.setSister (s1.sister.queueTrigger t)
  else State.settleGroup s1.sister.settleFuel t.group (some t) s1

/-- Take a trigger of a tool slot through the cases of R155. With WEAR hand-offs of two groups open for the slot, a BREAK
escalates the first in the list (R167; log entry 34). -/
def State.takeTrigger (s : State) (slot : Fin 8) (group : Option Nat) (seat : Seat) (kind : TriggerKind) : State :=
  match group with
  | none => s.orphanSlot slot
  | some g =>
    match (if kind = .break then s.sister.handOffs.find? (fun h => h.slot == slot && h.trigger == .wear) else none) with
    | some h => s.escalate h
    | none => s.placeTrigger { slot := slot, group := g, seat := seat, kind := kind }

/-- The trigger a change of a tool's state gives (Table 10-3). -/
def stateTrigger (before after : ToolState) : Option TriggerKind :=
  match before, after with
  | .broken, _ => none
  | _, .broken => some .break
  | .fresh, .worn => some .wear
  | .fresh, .spent => some .wear
  | .inService, .worn => some .wear
  | .inService, .spent => some .wear
  | .worn, .spent => some .wear
  | _, _ => none

/-- Release the reservation of a tool, which raises the free places and sets the status-changed mark (R159). -/
def State.releaseReservation (s : State) (slot : Fin 8) : State :=
  match s.sister.reservations.get slot with
  | none => s
  | some _ => (s.setSister { s.sister with reservations := s.sister.reservations.set slot none }).markStatus

/-- A report of a tool's change of state to the sister unit: a tool gone BROKEN gives up its reservation (R159), the
trigger of Table 10-3 is taken, and the status is marked changed (R13, R16). -/
def State.reportState (s : State) (slot : Fin 8) (before : ToolState) : State :=
  match s.tools.get slot with
  | none => s
  | some t =>
    if t.state = before then s
    else
      let s1 := if t.state = .broken then s.releaseReservation slot else s
      let s2 := match stateTrigger before t.state with
        | some kind => s1.takeTrigger slot t.group t.seat kind
        | none => s1
      s2.markStatus

/-! ## Ends of rounds (R161, R164) -/

/-- A round ends without a taker: below round 3 a new round calls, at round 3 the hand-off ends FAILED. -/
def State.endRound (s : State) (h : HandOff) : State :=
  if h.round < 3 then
    let (h', s1) := s.withNewTag h h.trigger (h.round + 1)
    let (s2, isOpen) := State.placeCall 3 h' s1
    if isOpen then s2 else s2.afterEnding h' true
  else (s.failHandOff h).afterEnding h true

/-- Window expiry: award the best offer, or end the round (R161). -/
def State.expireWindow (s : State) (h : HandOff) : State :=
  match h.offers with
  | [] => s.endRound h
  | best :: _ =>
    let h' := { h with phase := .awarding best.station, timer := none }
    let (t, discarded) :=
      (s.setSister (s.sister.putHandOff h')).offerFrame (.award h.tag h.group (some best.station))
    if discarded then t.endRound h' else t

/-! ## Reports of the transmit queue (R131, R161, R162) -/

/-- The open hand-off of a group whose current tag this is. -/
def Sister.current (x : Sister) (g : Nat) (tag : BitVec 8) : Option HandOff :=
  (x.openOf g).bind fun h => if h.tag = tag then some h else none

/-- A frame is reported SENT: a CALL of the current tag starts its window, an AWARD naming a winner the award timer,
and a TAKEN marks its adoption, every one of its caller and tag in the log (R157, R161, R162; log entry 55). -/
def State.reportSent (s : State) : FrameBody → State
  | .call c =>
    match s.sister.current c.group c.tag with
    | some h => s.setSister (s.sister.putHandOff { h with timer := some (s.clock + halfMs c.window) })
    | none => s
  | .award tag g (some _) =>
    match s.sister.current g tag with
    | some h => s.setSister (s.sister.putHandOff { h with timer := some (s.clock + halfMs s.figures.wCall) })
    | none => s
  | .taken caller tag =>
    s.setSister { s.sister with
      log := s.sister.log.map fun a => if a.caller = caller ∧ a.tag = tag then { a with sent := true } else a }
  | .status _ | .offer _ | .award _ _ none | .decline _ _ _ | .release _ _ => s

/-- A frame is reported DISCARDED: a CALL of the current tag ends its round as a window expiry with no offers, an
AWARD naming a winner as an expiry of the award timer (R157, R161). -/
def State.reportDiscarded (s : State) : FrameBody → State
  | .call c =>
    match s.sister.current c.group c.tag with
    | some h => s.endRound h
    | none => s
  | .award tag g (some _) =>
    match s.sister.current g tag with
    | some h => s.endRound h
    | none => s
  | .status _ | .offer _ | .award _ _ none | .taken _ _ | .decline _ _ _ | .release _ _ => s

/-! ## Cancellation and settlement (R168) -/

/-- A hand-off ends CANCELLED: its operations become ACTIVE on the slot, and the LOCAL notice names the whole batch, an
operation that has left the list among it (R168, log entry 53). -/
def State.cancelHandOff (s : State) (h : HandOff) : State :=
  let s1 := s.queueFrame (.award h.tag h.group none)
  let x := (s1.sister.dropHandOff h.group).mapEntries
    (fun e => e.among h.pairs && e.status == .handing) (fun e => { e with status := .active, slot := h.slot })
  (((s1.setSister x).sendSwap
    { kind := .local, group := some h.group, slot := some h.slot, slot2 := none, peer := none, moved := h.pairs
      dropped := [] }).departEnded h.pairs).afterEnding h false

/-- A MOUNT of a sound wheel at a wheelhead settles one standing record of its group (R168); the LOCAL notice names the
new wheel's slot first and the record's slot second, if it is another (log entry 38), and the pairs still listed alone, in list
order (log entry 53). -/
def State.settleStanding (s : State) (slot : Fin 8) (r : Standing) : State :=
  let moved := (s.sister.opList.filter fun e => e.among r.pairs).map OpEntry.op
  let x := s.sister.mapEntries (fun e => e.among r.pairs) fun e => { e with slot := slot, status := .active }
  (s.setSister { x with standing := x.standing.erase r }).sendSwap
    { kind := .local, group := some r.group, slot := some slot
      slot2 := if r.slot = slot then none else some r.slot, peer := none, moved := moved, dropped := [] }

/-- Cancel the open hand-off of a slot in a group, if there is one (R168). -/
def State.cancelOpen (s : State) (slot : Fin 8) (group : Option Nat) : State :=
  match s.sister.handOffs.find? (fun h => h.slot == slot && some h.group == group) with
  | some h => s.cancelHandOff h
  | none => s

/-- Whether a tool is a sound wheel at a wheelhead (R168). -/
def Tool.soundAtHead (t : Tool) : Bool :=
  match t.kind, t.seat with
  | .wheel, .wheelhead _ => t.state.sound
  | _, _ => false

/-- Settle every standing record of a group onto a slot (R168), in the order the records were made (log entry 57). -/
def State.settleAll (s : State) (slot : Fin 8) (group : Option Nat) : State :=
  (s.sister.standing.filter fun r => some r.group == group).foldl (fun s r => s.settleStanding slot r) s

/-- The report of an accepted MOUNT (R6, R168): the slot's waiting trigger goes, an open hand-off of the slot in the
tool's group is cancelled, a sound wheel at a wheelhead settles its group's standing records, and a WORN or SPENT tool
receives a WEAR trigger. R168 gives the first three no order: the trigger goes first (log entry 43), and the cancellation,
with the trigger queue that follows it, comes before the settling (log entry 47). -/
def State.reportMount (s : State) (slot : Fin 8) (t : Tool) : State :=
  let s1 := s.setSister { s.sister with triggers := s.sister.triggers.filter fun q => q.slot != slot }
  let s2 := s1.cancelOpen slot t.group
  let s3 := if t.soundAtHead then s2.settleAll slot t.group else s2
  if t.state = .worn ∨ t.state = .spent then s3.takeTrigger slot t.group t.seat .wear else s3

/-- The report that a slot's dress-blocked flag has been cleared (R168): its open DRESS_BLOCKED hand-offs are cancelled in
the order they were opened (log entry 57), and then (log entry 47) its standing DRESS_BLOCKED records go, their pairs
ACTIVE, with no SWAP NOTICE for them (log entry 48). -/
def State.reportUnblocked (s : State) (slot : Fin 8) : State :=
  let s1 := (s.sister.handOffs.filter fun h => h.slot == slot && h.trigger == .dressBlocked).foldl
    (fun s h => s.cancelHandOff h) s
  let gone := s1.sister.standing.filter fun r => r.slot == slot && r.trigger == .dressBlocked
  let x := s1.sister.mapEntries (fun e => e.among (gone.flatMap Standing.pairs)) fun e => { e with status := .active }
  s1.setSister { x with standing := x.standing.filter fun r => !(r.slot == slot && r.trigger == .dressBlocked) }

end Sys2Proof.Machine
end

