-- ==== Sys2Proof/Machine/Peers.lean ====
section
/-! DEFINITION. What the sister unit does with each frame delivered to it: the peer view (chapter 9), the return of lent
operations (R149 to R151, R170), and the offering, adopting and calling sides of the hand-off (R158 to R165, R169). -/

namespace Sys2Proof.Machine

/-! ## The peer view (R146) -/

/-- The peer entry of a station. -/
def Sister.peer (x : Sister) (station : Nat) : Option Peer := x.peers.find? fun p => p.station == station

/-- Replace the peer entry of a station. -/
def Sister.mapPeer (x : Sister) (station : Nat) (f : Peer → Peer) : Sister :=
  { x with peers := x.peers.map fun p => if p.station == station then f p else p }

/-- Whether a station's entry is STALE; a station without an entry is not (R148, R160). -/
def Sister.isStale (x : Sister) (station : Nat) : Bool :=
  match x.peer station with
  | some p => !p.live
  | none => false

/-- The contents of an entry before its first STATUS (R146). -/
def State.noStatus (s : State) : StatusBody :=
  { period := s.figures.statusPeriod, free := 0, tools := [], held := [], reclaim := [] }

/-- A frame of any kind is heard from a station (R146). A new entry stands behind the others (log entry 33). -/
def State.hearPeer (s : State) (station : Nat) : State :=
  match s.sister.peer station with
  | some _ => s.setSister (s.sister.mapPeer station fun p => { p with heardAt := s.clock, live := true })
  | none =>
    if s.sister.peers.length < 15 then
      s.setSister { s.sister with
        peers := s.sister.peers ++ [{ station := station, heardAt := s.clock, live := true, status := s.noStatus }] }
    else if s.sister.viewFull then s
    else (s.setSister { s.sister with viewFull := true }).sendLinkNotice (.viewFull station)

/-! ## Lent operations come home (R150) -/

/-- The wheel of the larger remaining life, on a tie the lower slot, among some wheels in slot order. -/
def bestWheel : List (Fin 8 × Tool) → Option (Fin 8 × Tool)
  | [] => none
  | w :: rest => match bestWheel rest with
    | none => some w
    | some v => if w.2.life < v.2.life then some v else some w

/-- The tool slot and status of an operation of group g that comes home (R150). -/
def State.homePlace (s : State) (g : Nat) : Fin 8 × OpStatus :=
  let wheels := s.headWheels.filter fun w => w.2.group == some g
  match bestWheel (wheels.filter fun w => w.2.state.sound) with
  | some w => (w.1, .active)
  | none => match bestWheel (wheels.filter fun w => w.2.state == .worn) with
    | some w => (w.1, .active)
    | none => match bestWheel wheels with
      | some w => (w.1, .orphan)
      | none =>
        ((toolSlots.find? fun slot => !s.headWheels.any fun w => w.1 == slot).getD 0, .orphan)

/-- Take some lent entries home in order, as far as there is room, and answer the state and the entries made (steps 1
and 2 of R150); `orphan` gives every one status ORPHAN (R151). -/
def State.takeHome (orphan : Bool) : List LentEntry → State → State × List OpEntry
  | [], s => (s, [])
  | e :: rest, s =>
    if 24 ≤ s.sister.occupancy then State.takeHome orphan rest s
    else
      let (slot, status) := s.homePlace e.group
      let entry : OpEntry :=
        { op := e.op, cls := e.cls, slot := slot, lender := none, status := if orphan then .orphan else status, mark := none }
      let (t, made) := State.takeHome orphan rest
        (s.setSister { s.sister with lent := s.sister.lent.erase e, opList := s.sister.opList ++ [entry] })
      (t, entry :: made)

/-- The group that some operations' lent entries share, if they share one (log entry 11). -/
def lentGroup (lent : List LentEntry) (entries : List OpEntry) : Option Nat :=
  commonGroup ((lent.filter fun e => decide (e.op ∈ entries.map OpEntry.op)).map fun e => some e.group)

/-- Take the lent entries of a holder that meet a condition home; when any came, the mark is set and one SWAP NOTICE
of OPS_BACK is queued (R150). -/
def State.bringHome (s : State) (holder : Nat) (sel : LentEntry → Bool) : State :=
  let (t, made) := State.takeHome false (s.sister.lent.filter fun e => e.holder == holder && sel e) s
  if made.isEmpty then t
  else t.markStatus.sendSwap
    { t.swapFor .opsBack (some holder) made with group := lentGroup s.sister.lent made }

/-! ## STATUS (R147, R149, R150, R163, R169) -/

/-- The holder side of reclaim: each adopted entry of a reclaimed group is marked RECLAIM, and those that leave at once
leave together, with one RELEASE to the lender (R149, R170). -/
def State.markReclaimed (s : State) (lender : Nat) (groups : List Nat) : State :=
  s.markLeaving .reclaim fun e =>
    e.lender == some lender &&
      groups.any fun g => s.groupOfSlot e.slot == some g || (s.groupOfSlot e.slot).isNone

/-- The pairs a STATUS holds for this station as lender (R150). -/
def State.heldForUs (s : State) (b : StatusBody) : List Op :=
  (b.held.filter fun e => e.lender == s.figures.station).map HeldEntry.op

/-- The tags of a hand-off with the station awarded under each, the current one first (R163). -/
def HandOff.tags (h : HandOff) : List (BitVec 8 × Option Nat) := (h.tag, h.awarded) :: h.earlier

/-- Whether every operation of a hand-off is still HANDING (R163): with one of them gone from the list a TAKEN is not
honoured (log entry 44). -/
def Sister.stillHanding (x : Sister) (h : HandOff) : Bool :=
  h.pairs.all fun op => x.opList.any fun e => e.op == op && e.status == .handing

/-- An honoured TAKEN: the batch leaves the list, lent entries are made for a batch with no lender, at the back of the lent
list (log entry 33), OPS_OUT is queued, and the hand-off ends DONE (R163). -/
def State.honourTaken (s : State) (h : HandOff) (taker : Nat) (tag : BitVec 8) : State :=
  let lent := match h.lender with
    | none => h.batch.map fun b => { op := b.op, cls := b.cls, group := h.group, holder := taker : LentEntry }
    | some _ => []
  let x := s.sister.dropHandOff h.group
  let s1 := s.setSister { x with
    opList := x.opList.filter fun e => !e.among h.pairs, lent := x.lent ++ lent, mark := true }
  let s2 := s1.sendSwap
    { kind := .opsOut, group := some h.group, slot := some h.slot, slot2 := none, peer := some taker, moved := h.pairs
      dropped := [] }
  let s3 := if tag ≠ h.tag ∧ h.awarded.isSome then s2.queueFrame (.award h.tag h.group none) else s2
  s3.afterEnding h true

/-- A STATUS of an awarded station that lists a whole batch stands for its lost TAKEN (R163): under the current tag if the
station was awarded under it, or else under the earliest of the earlier tags (log entry 36). Several hand-offs are honoured in
the order they were opened (log entry 57). -/
def State.takenByStatus (s : State) (station : Nat) (b : StatusBody) : State :=
  s.sister.handOffs.foldl
    (fun s h =>
      match h.tags.find? fun t => t.2 == some station with
      | some t =>
        if decide (h ∈ s.sister.handOffs) && s.sister.stillHanding h &&
            h.pairs.all (fun op => decide (op ∈ s.heldForUs b)) then
          s.honourTaken h station t.1
        else s
      | none => s) s

/-- The latest adoption from a station that brought a pair home (R150). -/
def Sister.homecoming (x : Sister) (station : Nat) (op : Op) : Option Adoption :=
  x.log.reverse.find? fun a => a.caller == station && a.ops.any fun o => o.op == op && o.home.isSome

/-- Whether a pair stands in the operation list with origin OWN and not HANDING (R150). -/
def Sister.ownAtHome (x : Sister) (op : Op) : Bool :=
  x.opList.any fun e => e.op == op && e.lender.isNone && e.status != .handing

/-- Homecomings unconfirmed: the TAKEN of each adoption, reported SENT, whose pairs a holder still lists is queued
again (R150). -/
def State.repeatTaken (s : State) (station : Nat) (pairs : List Op) : State :=
  let tags := distinct (pairs.filterMap fun op =>
    (s.sister.homecoming station op).bind fun a => if a.sent then some a.tag else none)
  tags.foldl (fun s tag => s.queueFrame (.taken station tag)) s

/-- The group a hand-off unconfirmed is lent under: of the standing record that covered the pair, or else of the tool
in its slot (R150). Of several records the one made first counts (log entry 33). -/
def State.lendingGroup (s : State) (e : OpEntry) : Option Nat :=
  match s.sister.standing.find? fun r => decide (e.op ∈ r.pairs) with
  | some r => some r.group
  | none => s.groupOfSlot e.slot

/-- Lend the pairs of hand-offs unconfirmed, each while there is lent room, at the back of the lent list; the answer names the
entries lent (R150; log entries 12 and 33). -/
def State.lendUnconfirmed (holder : Nat) : List Op → State → State × List OpEntry
  | [], s => (s, [])
  | op :: rest, s =>
    match s.sister.entry op with
    | none => State.lendUnconfirmed holder rest s
    | some e => match s.lendingGroup e with
      | none => State.lendUnconfirmed holder rest s
      | some g =>
        if s.sister.lentRoom = 0 then State.lendUnconfirmed holder rest s
        else
          let (t, lent) := State.lendUnconfirmed holder rest
            (s.setSister { s.sister with
              opList := s.sister.opList.erase e
              lent := s.sister.lent ++ [{ op := e.op, cls := e.cls, group := g, holder := holder }] })
          (t, e :: lent)

/-- Held-for-others entries that name this station and have no lent entry here (R150). -/
def State.confirmHeld (s : State) (station : Nat) (pairs : List Op) : State :=
  let claimed := (distinct pairs).filter fun op => !s.sister.isLent op && s.sister.ownAtHome op
  let s1 := s.repeatTaken station (claimed.filter fun op => (s.sister.homecoming station op).isSome)
  let (s2, lent) := State.lendUnconfirmed station
    (claimed.filter fun op => (s.sister.homecoming station op).isNone) s1
  if lent.isEmpty then s2
  else s2.markStatus.sendSwap
    { s1.swapFor .opsOut (some station) lent with group := commonGroup (lent.map s1.lendingGroup) }

/-- The lender side of reclaim at a STATUS (R150), a lost TAKEN that it stands for first (R163; log entry 13). -/
def State.lenderSide (s : State) (station : Nat) (b : StatusBody) : State :=
  let s1 := s.takenByStatus station b
  let pairs := s1.heldForUs b
  (s1.bringHome station fun e => !decide (e.op ∈ pairs)).confirmHeld station pairs

/-- Whether a STATUS shows a sister that could serve a standing record (R169). -/
def StatusBody.serves (b : StatusBody) (r : Standing) : Bool :=
  decide (r.needPlaces ≤ b.free) && b.tools.any fun t =>
    t.group == r.group && (t.state == ToolState.fresh.code || t.state == ToolState.inService.code) && !t.reserved &&
      decide ((r.needLife : Int) ≤ t.life)

/-- What follows the opening of a restarted hand-off: nothing while it is open; the trigger queue, and after a FAILED
round the follow-on, when it is not (R166, R169). -/
def State.afterOpening (t : Trigger) : State × Opening → State
  | (s, .opened) => s
  | (s, .noLentRoom) => State.settleGroup s.sister.settleFuel t.group none s
  | (s, .failed) => State.settleGroup s.sister.settleFuel t.group (some t) s

/-- A standing record meets a STATUS of station P: it restarts as a new hand-off when the conditions of R169 hold. Its batch is
formed in the order of the record's pairs, which may differ from list order (log entry 56). -/
def State.restartStanding (s : State) (station : Nat) (b : StatusBody) (r : Standing) : State :=
  if decide (r ∈ s.sister.standing) && b.serves r && (r.lender.isNone || r.lender == some station) &&
      s.station == .running && (s.sister.openOf r.group).isNone && (r.lender.isSome || decide (1 ≤ s.sister.lentRoom)) then
    let s1 := s.setSister { s.sister with standing := s.sister.standing.erase r }
    let batch := r.pairs.filterMap fun op =>
      (s1.sister.entry op).bind fun e => if e.status = .handing then none else some ⟨e.op, e.cls⟩
    if batch.isEmpty then s1
    else
      let t : Trigger := { slot := r.slot, group := r.group, seat := r.seat, kind := r.trigger }
      State.afterOpening t (s1.openBatch t r.lender batch)
  else s

/-- A STATUS is delivered (R147); `stale` is the standing the station's entry held before the frame, and `known` whether it
has one after it. An entry the frame itself made counts as not STALE, so that its STATUS restarts records; a STATUS that
leaves no figures in the view restarts none (R146, R169, log entry 50). -/
def State.takeStatus (s : State) (station : Nat) (stale known : Bool) (b : StatusBody) : State :=
  let s1 := s.setSister (s.sister.mapPeer station fun p => { p with status := b })
  let s2 := (s1.markReclaimed station b.reclaim).lenderSide station b
  if stale || !known then s2
  else s2.sister.standing.foldl (fun s r => s.restartStanding station b r) s2

/-! ## The offering station (R158, R162) -/

/-- Whether a called pair is suitable, by the lender it is called with, whatever the other pairs of the CALL are (R158, log
entry 52). -/
def State.pairSuits (s : State) (o : CalledOp) : Bool :=
  match o.lender with
  | none => !s.sister.listed o.op && !s.sister.isLent o.op
  | some l => l == s.figures.station && !s.sister.listed o.op

/-- Whether a wheel at a wheelhead is eligible for a CALL, apart from the conditions on the station (R158). -/
def State.wheelEligible (s : State) (c : CallBody) (w : Fin 8 × Tool) : Bool :=
  w.2.state.sound && w.2.group == some c.group && (s.sister.reservations.get w.1).isNone &&
    decide ((c.needLife : Int) ≤ w.2.life)

/-- Whether the station may offer for a CALL (R158). The room is judged by need_places, which may differ from the number of
operations (log entry 51); a pair the CALL names twice is judged each time (log entry 52). -/
def State.mayOffer (s : State) (caller : Nat) (c : CallBody) : Bool :=
  !(toolSlots.any fun slot => match s.sister.reservations.get slot with
      | some r => r.caller == caller && r.tag == c.tag
      | none => false) &&
    decide (c.needPlaces ≤ s.free) && (s.sister.openOf c.group).isNone && s.station == .running &&
    c.ops.all s.pairSuits

/-- A CALL is delivered: the best eligible tool is reserved and an OFFER queued (R158). The reservation holds the places of the
operations the CALL lists, whatever its need_places (log entry 51). -/
def State.takeCall (s : State) (caller : Nat) (c : CallBody) : State :=
  if s.mayOffer caller c then
    match bestWheel (s.headWheels.filter (s.wheelEligible c)) with
    | none => s
    | some (slot, t) =>
      let r : Reservation :=
        { caller := caller, tag := c.tag, group := c.group, ops := c.ops, opsCount := c.ops.length, urgent := c.urgent
          expiry := s.clock + halfMs (3 * c.window) }
      let s1 := (s.setSister { s.sister with reservations := s.sister.reservations.set slot (some r) }).markStatus
      s1.queueFrame (.offer
        { caller := caller, tag := c.tag, group := c.group, urgent := c.urgent, life := t.life, freeAfter := s1.free
          slot := slot.val, toolState := t.state.code, opsCount := r.opsCount })
  else s

/-- The slot whose reservation is held for a (caller, tag) (R162). -/
def State.reservedFor (s : State) (caller : Nat) (tag : BitVec 8) : Option (Fin 8 × Reservation) :=
  toolSlots.findSome? fun slot => (s.sister.reservations.get slot).bind fun r =>
    if r.caller = caller ∧ r.tag = tag then some (slot, r) else none

/-- Whether a reserved tool is fit to adopt (R162). A pair reserved twice is no obstacle (log entry 52). -/
def State.fitToAdopt (s : State) (slot : Fin 8) (r : Reservation) : Bool :=
  s.toolIf (fun t => t.state.sound || t.state == .worn) slot && !(r.ops.any fun o => s.sister.listed o.op)

/-- Adopt the operations of a reservation (R162), a pair of a variant above 7 among them as it came in the CALL (log entry
49). Each operation reserved takes a place: those beyond need_places, so that the list can pass 24 (log entry 51), and a pair
reserved twice in both (log entry 52). -/
def State.adopt (s : State) (slot : Fin 8) (r : Reservation) : State :=
  let home (o : CalledOp) : Option LentEntry := s.sister.lent.find? fun e => e.op == o.op
  let entry (o : CalledOp) : OpEntry :=
    { op := o.op, cls := o.cls, slot := slot, lender := if (home o).isSome then none else some r.caller
      status := .active, mark := none }
  let adoption : Adoption :=
    { caller := r.caller, tag := r.tag, ops := r.ops.map fun o => ⟨o.op, home o⟩, sent := false }
  let log := s.sister.log ++ [adoption]
  let s1 := s.setSister { s.sister with
    opList := s.sister.opList ++ r.ops.map entry
    lent := s.sister.lent.filter fun e => !decide (e.op ∈ r.ops.map CalledOp.op)
    reservations := s.sister.reservations.set slot none
    log := log.drop (log.length - 8) }
  ((s1.queueFrame (.taken r.caller r.tag)).sendSwap
    { kind := .opsIn, group := some r.group, slot := some slot, slot2 := none, peer := some r.caller
      moved := r.ops.map CalledOp.op, dropped := [] }).markStatus

/-- An AWARD is delivered (R159, R162). One that names another or none releases the reservation of its own tag alone, so that
of a later round does not release the tool R164 speaks of (log entry 42). -/
def State.takeAward (s : State) (caller : Nat) (tag : BitVec 8) (winner : Option Nat) : State :=
  if winner = some s.figures.station then
    match s.reservedFor caller tag with
    | none => s.queueFrame (.decline caller tag .tooLate)
    | some (slot, r) =>
      if s.fitToAdopt slot r then s.adopt slot r
      else (s.releaseReservation slot).queueFrame (.decline caller tag .unfit)
  else
    match s.reservedFor caller tag with
    | none => s
    | some (slot, _) => s.releaseReservation slot

/-! ## The calling station (R160, R163 to R165) -/

/-- Whether an offer ranks above another (R160). -/
def Offer.above (x y : Offer) : Bool :=
  decide (y.life < x.life) ||
    (decide (x.life = y.life) && (decide (y.freeAfter < x.freeAfter) ||
      (decide (x.freeAfter = y.freeAfter) && decide (x.station < y.station))))

/-- Put an offer in its rank. -/
def rankOffer (x : Offer) : List Offer → List Offer
  | [] => [x]
  | y :: rest => if x.above y then x :: y :: rest else y :: rankOffer x rest

/-- An offer joins an offer set: it replaces the station's earlier offer, and the best 8 stay (R160). -/
def joinOffers (offers : List Offer) (x : Offer) : List Offer :=
  (rankOffer x (offers.filter fun y => y.station != x.station)).take 8

/-- An OFFER is delivered (R160); `stale` is the standing the station's entry held before the frame. -/
def State.takeOffer (s : State) (station : Nat) (stale : Bool) (o : OfferBody) : State :=
  if o.caller = s.figures.station ∧ stale = false then
    match s.sister.current o.group o.tag with
    | some h =>
      if h.phase = .calling then
        s.setSister (s.sister.putHandOff { h with
          offers := joinOffers h.offers
            { station := station, life := o.life, freeAfter := o.freeAfter, slot := o.slot, toolState := o.toolState
              opsCount := o.opsCount } })
      else s
    | none => s
  else s

/-- The open hand-off that honours a TAKEN of a station under a tag (R163), the one opened first where several could (log entry
58). -/
def Sister.honours (x : Sister) (station : Nat) (tag : BitVec 8) : Option HandOff :=
  x.handOffs.find? fun h => decide ((tag, some station) ∈ h.tags) && x.stillHanding h

/-- A TAKEN is delivered: honoured, or answered WITHDRAWN (R163, R165). -/
def State.takeTaken (s : State) (station caller : Nat) (tag : BitVec 8) : State :=
  if caller = s.figures.station then
    match s.sister.honours station tag with
    | some h => s.honourTaken h station tag
    | none => s.queueFrame (.decline station tag .withdrawn)
  else s

/-- A DECLINE of reason TOO_LATE or UNFIT ends the round of the hand-off that awarded the station under its current
tag (R164), of the one opened first where there are several (log entry 58). -/
def State.takeRefusal (s : State) (station : Nat) (tag : BitVec 8) : State :=
  match s.sister.handOffs.find? (fun h => h.tag == tag && h.awarded == some station) with
  | some h => s.endRound h
  | none => s

/-- Restore the lent entries of withdrawn homecomers while there is lent room, at the back of the lent list, dropping the
rest (R165; log entries 12 and 33). -/
def Sister.restoreLent (holder : Nat) : List LentEntry → Sister → Sister
  | [], x => x
  | e :: rest, x =>
    if x.lentRoom = 0 then Sister.restoreLent holder rest x
    else Sister.restoreLent holder rest { x with lent := x.lent ++ [{ e with holder := holder }] }

/-- A DECLINE of reason WITHDRAWN undoes the logged adoption (R165). The OPS_BACK names every homecomer as moved, those
dropped for want of lent room too (log entry 37). A homecomer that has left the list since is given no lent entry, and with
none still listed no OPS_BACK is queued; of an adoption of both sorts each pair is undone by its own origin, the ADOPTED ones
first (log entry 46). -/
def State.takeWithdrawn (s : State) (station : Nat) (tag : BitVec 8) : State :=
  match s.sister.log.reverse.find? (fun a => a.caller == station && a.tag == tag) with
  | none => s
  | some a =>
    let adopted := (a.ops.filter fun o => o.home.isNone).map AdoptedOp.op
    let s1 := s.markLeaving .withdrawn fun e => e.lender == some station && e.among adopted
    let homecomers := (a.ops.filter fun o => o.home.isSome && s1.sister.listed o.op)
    if homecomers.isEmpty then s1
    else
      let pairs := homecomers.map AdoptedOp.op
      let leaving := s1.sister.opList.filter fun e => e.among pairs
      let x := { s1.sister with opList := s1.sister.opList.filter fun e => !e.among pairs }
      let entries := homecomers.filterMap AdoptedOp.home
      (s1.setSister (Sister.restoreLent station entries x)).sendSwap
        { s1.swapFor .opsBack (some station) leaving with
            group := commonGroup (entries.map fun e => some e.group) }

/-- A DECLINE is delivered (R164, R165). -/
def State.takeDecline (s : State) (station addressed : Nat) (tag : BitVec 8) (reason : DeclineReason) : State :=
  if addressed = s.figures.station then
    match reason with
    | .tooLate | .unfit => s.takeRefusal station tag
    | .withdrawn => s.takeWithdrawn station tag
    | .other _ => s
  else s

/-- A RELEASE is delivered (R170). -/
def State.takeRelease (s : State) (station lender : Nat) (ops : List Op) : State :=
  if lender = s.figures.station then s.bringHome station fun e => decide (e.op ∈ ops) else s

/-- A frame is delivered to the sister unit: the peer view hears its station, and its kind is acted on (R135, R146). -/
def State.deliver (s : State) (station : Nat) (body : FrameBody) : State :=
  let stale := s.sister.isStale station
  let s1 := s.hearPeer station
  let known := (s1.sister.peer station).isSome
  match body with
  | .status b => s1.takeStatus station stale known b
  | .call c => s1.takeCall station c
  | .offer o => s1.takeOffer station stale o
  | .award tag _ winner => s1.takeAward station tag winner
  | .taken caller tag => s1.takeTaken station caller tag
  | .decline addressed tag reason => s1.takeDecline station addressed tag reason
  | .release lender ops => s1.takeRelease station lender ops

/-! ## Ageing (R148, R151) -/

/-- A peer entry becomes STALE (R148). -/
def State.stalePeer (s : State) (p : Peer) : State :=
  (s.reach (p.heardAt + 3 * halfMs p.status.period)).setSister
    (s.sister.mapPeer p.station fun q => { q with live := false })

/-- Every peer entry becomes STALE at silence (R139, R148). -/
def Sister.allStale (x : Sister) : Sister :=
  { x with peers := x.peers.map fun p => { p with live := false } }

/-- A peer entry is removed and its lent operations come home ORPHAN (R151). -/
def State.removePeer (s : State) (p : Peer) : State :=
  let s1 := (s.reach (p.heardAt + 10 * halfMs p.status.period)).setSister
    { s.sister with peers := s.sister.peers.filter (fun q => q.station != p.station), viewFull := false }
  let theirs := s1.sister.lent.filter fun e => e.holder == p.station
  if theirs.isEmpty then s1
  else
    let (s2, made) := State.takeHome true theirs s1
    let left := s2.sister.lent.filter fun e => e.holder == p.station
    (s2.setSister { s2.sister with
        lent := s2.sister.lent.filter (fun e => e.holder != p.station), mark := true }).sendSwap
      { s2.swapFor .holderLost (some p.station) made with
          group := commonGroup (theirs.map fun e => some e.group), dropped := left.map LentEntry.op }

end Sys2Proof.Machine
end

