-- ==== Sys2Proof/Machine/Store.lean ====
section
/-! DEFINITION. The envelope store (chapter 5) with the placement and the writes of teach results (sections 6.4 and 6.5): keys,
slots, the LRU order, the fetch queue, the flash port and its arbiter. -/

namespace Sys2Proof.Machine

/-- The number of a wheelhead. -/
def wheelheadNumber : Wheelhead → Nat
  | .w0 => 0
  | .w1 => 1

/-- The key of an operation ground on wheelhead n (R76). -/
def keyOf (n : Wheelhead) (op : Op) : Nat := op.variant * 32 + wheelheadNumber n * 16 + op.journal

/-! ## Slots (R78 to R81) -/

/-- The 24 envelope slots, lowest first. -/
def envSlots : List (Fin 24) :=
  [0, 1, 2, 3, 4, 5, 6, 7, 8, 9, 10, 11, 12, 13, 14, 15, 16, 17, 18, 19, 20, 21, 22, 23]

/-- The key a slot holds resident (R78). -/
def EnvSlot.key : EnvSlot → Option Nat
  | .empty => none
  | .filling key => some key
  | .ready key _ => some key
  | .absent key => some key
  | .writing key _ _ => some key
  | .unsaved key _ => some key

/-- The contents of a slot that is usable as a band (Table 5-1). -/
def EnvSlot.envelope : EnvSlot → Option Envelope
  | .ready _ env => some env
  | .writing _ env _ => some env
  | .unsaved _ env => some env
  | .empty => none
  | .filling _ => none
  | .absent _ => none

/-- Whether a slot's own state pins it (R79). -/
def EnvSlot.pinned : EnvSlot → Bool
  | .filling _ => true
  | .writing _ _ _ => true
  | .unsaved _ _ => true
  | .empty => false
  | .ready _ _ => false
  | .absent _ => false

/-- The number of a slot's state in Table 5-1, from 0. -/
def EnvSlot.stateNumber : EnvSlot → Nat
  | .empty => 0
  | .filling _ => 1
  | .ready _ _ => 2
  | .absent _ => 3
  | .writing _ _ _ => 4
  | .unsaved _ _ => 5

/-- The slot that holds a key resident. -/
def Store.resident (x : Store) (key : Nat) : Option (Fin 24) :=
  envSlots.find? fun slot => (x.slots.get slot).key == some key

/-- The slot of a key that is usable as a band: READY, WRITING or UNSAVED (R41, R42). -/
def Store.usable (x : Store) (key : Nat) : Option (Fin 24) :=
  (x.resident key).filter fun slot => (x.slots.get slot).envelope.isSome

/-- Replace a slot. -/
def Store.setSlot (x : Store) (slot : Fin 24) (e : EnvSlot) : Store := { x with slots := x.slots.set slot e }

/-- Move a slot to the most recent end of the LRU order, joining it there if it was not in it (R80). -/
def Store.toRecent (x : Store) (slot : Fin 24) : Store :=
  { x with lru := x.lru.filter (fun k => k != slot) ++ [slot] }

/-- The slot a channel has taken for its open journal (R79). -/
def Channel.heldSlot (c : Channel) : Option (Fin 24) :=
  match c.activity with
  | .journal _ j => match j.source with
    | some (.envelope slot) => some slot
    | _ => none
  | _ => none

/-- Whether a slot is pinned (R79). -/
def State.pinnedSlot (s : State) (slot : Fin 24) : Bool :=
  (s.store.slots.get slot).pinned || s.channels.w0.heldSlot == some slot || s.channels.w1.heldSlot == some slot

/-- The slot chosen for a fetch or a teach result: the lowest EMPTY one, or the least recently used one that is not
pinned (R81). -/
def State.chooseSlot (s : State) : Option (Fin 24) :=
  match envSlots.find? fun slot => (s.store.slots.get slot).key.isNone with
  | some slot => some slot
  | none => s.store.lru.find? fun slot => !s.pinnedSlot slot

/-! ## The flash record (R76, Table 11-10) -/

/-- The three bytes of a point: the lower bound in the first 12 bits, the upper bound in the last 12. -/
def pointBytes (b : Bounds) : List Byte := beBytes 3 (b.lower * 4096 + b.upper)

/-- Bytes 0 to 201 of a record. -/
def recordBody (key : Nat) (env : Envelope) : List Byte :=
  [0x6E#8, 0x5A#8, byte1 key, byte1 env.m] ++ beBytes 2 env.step ++ beBytes 4 env.eRef ++
    env.points.toList.flatMap pointBytes

/-- The 204 bytes of a record (R90). -/
def recordBytes (key : Nat) (env : Envelope) : List Byte :=
  recordBody key env ++ crcBytes (recordBody key env)

/-- A field of a record. -/
def fieldAt (bytes : List Byte) (start length : Nat) : Nat := natOfBytes ((bytes.drop start).take length)

/-- Point k of a record. -/
def pointAt (bytes : List Byte) (k : Nat) : Bounds :=
  { lower := fieldAt bytes (10 + 3 * k) 3 / 4096, upper := fieldAt bytes (10 + 3 * k) 3 % 4096 }

/-- A vector of 64 given point by point. -/
def points64 {α : Type} (f : Nat → α) : Vector α 64 := ⟨⟨(List.range 64).map f⟩, by simp⟩

/-- The outcome of a read (Table 5-3). -/
inductive Judgement where
  | erased
  | bad (why : BadRead)
  | good (env : Envelope)
deriving DecidableEq, Repr

/-- Judge the 204 bytes of a read for a key (Table 5-3). -/
def judgeRead (key : Nat) (bytes : List Byte) : Judgement :=
  let m := fieldAt bytes 3 1
  if fieldAt bytes 0 2 = 0xFFFF then .erased
  else if (crc16 (bytes.take 202)).toNat ≠ fieldAt bytes 202 2 then .bad .crc
  else if fieldAt bytes 0 2 ≠ 0x6E5A then .bad .marker
  else if fieldAt bytes 2 1 ≠ key then .bad .key
  else if m < 4 ∨ 16 < m then .bad .count
  else .good
    { m := m, step := fieldAt bytes 4 2, eRef := fieldAt bytes 6 4, points := points64 (pointAt bytes) }

/-! ## What the flash port sends (R76, R77) -/

/-- The byte address at which the sector of a key begins (R76). -/
def sectorAddress (key : Nat) : Nat := key * 4096

/-- A command of the flash device: a read that clocks in so many bytes, a write enable, the erase of the sector that begins
at an address, the program of a page from an address, and status reads until the device is ready or so many milliseconds
have passed since the command before (R77). -/
inductive FlashCommand where
  | read (address length : Nat)
  | writeEnable
  | sectorErase (address : Nat)
  | pageProgram (address : Nat) (bytes : List Byte)
  | statusUntilReady (limitMs : Nat)
deriving DecidableEq, Repr

/-- The three steps of a write (R77). -/
inductive WriteStep where
  | erase
  | program
  | readBack
deriving DecidableEq, Repr

/-- What the port sends in a step of the write of a key's record (R77). -/
def WriteStep.commands (key : Nat) (record : List Byte) : WriteStep → List FlashCommand
  | .erase => [.writeEnable, .sectorErase (sectorAddress key), .statusUntilReady 400]
  | .program => [.writeEnable, .pageProgram (sectorAddress key) record, .statusUntilReady 10]
  | .readBack => [.read (sectorAddress key) 204]

/-- What the port sends for the read of a fetch, or for a write that meets no status past its limit, in order (R77). -/
def FlashPort.commands : FlashPort → List FlashCommand
  | .idle => []
  | .fetching _ key _ _ => [.read (sectorAddress key) 204]
  | .writing _ key record _ => [WriteStep.erase, .program, .readBack].flatMap (WriteStep.commands key record)

/-! ## The fetch queue (R82 to R84) -/

/-- Place a demand: behind the demands and ahead of every prefetch, the youngest prefetch giving way when the queue is
full; it is discarded when the queue is full of demands (R83). -/
def Store.placeDemand (x : Store) (key : Nat) : Store :=
  let demands := x.queue.filter fun r => r.kind == .demand
  let prefetches := x.queue.filter fun r => r.kind == .prefetch
  if x.queue.length < 4 then { x with queue := demands ++ [⟨key, .demand⟩] ++ prefetches }
  else if prefetches.isEmpty then x
  else { x with queue := demands ++ [⟨key, .demand⟩] ++ prefetches.dropLast }

/-- Take a key out of the fetch queue. -/
def Store.unqueue (x : Store) (key : Nat) : Store := { x with queue := x.queue.filter fun r => r.key != key }

/-- The lookup at arming: the answer to the channel and the store's action (Table 5-2). -/
def Store.lookup (x : Store) (key : Nat) : Option (Fin 24) × Store :=
  match x.resident key with
  | some slot => match x.slots.get slot with
    | .filling _ => (none, x)
    | .absent _ => (none, x.toRecent slot)
    | _ => (some slot, x.toRecent slot)
  | none =>
    if x.badKeys.getLsbD key then (none, x)
    else match x.queue.find? fun r => r.key == key with
      | some r => match r.kind with
        | .demand => (none, x)
        | .prefetch => (none, (x.unqueue key).placeDemand key)
      | none => (none, x.placeDemand key)

/-- Take a prefetch (R84). -/
def Store.placePrefetch (x : Store) (key : Nat) : Store :=
  if (x.resident key).isSome || x.badKeys.getLsbD key || x.queue.any (fun r => r.key == key) ||
      decide (4 ≤ x.queue.length) then x
  else { x with queue := x.queue ++ [⟨key, .prefetch⟩] }

/-! ## The flash port arbiter (R85, R86, R90) -/

/-- Start the fetch at the front of the queue (R86). -/
def State.startFetch (s : State) (r : FetchRequest) (rest : List FetchRequest) : State :=
  match s.chooseSlot with
  | none => s
  | some slot =>
    let x := (s.store.setSlot slot (.filling r.key)).toRecent slot
    s.setStore { x with queue := rest, port := .fetching slot r.key 0 false }

/-- Start the write that has waited longest (R90). -/
def State.startWrite (s : State) (slot : Fin 24) (rest : List (Fin 24)) : State :=
  match s.store.slots.get slot with
  | .writing key env _ =>
    s.setStore { s.store with pendingWrites := rest, port := .writing slot key (recordBytes key env) false }
  | _ => s

/-- The arbiter: with the port idle, the front demand starts, or else the oldest pending write, or else the front
prefetch (R85). -/
def State.arbitrate (s : State) : State :=
  match s.store.port with
  | .idle => match s.store.queue, s.store.pendingWrites with
    | ⟨key, .demand⟩ :: rest, _ => s.startFetch ⟨key, .demand⟩ rest
    | _, slot :: rest => s.startWrite slot rest
    | r :: rest, [] => s.startFetch r rest
    | [], [] => s
  | _ => s

/-- Offer a prefetch to the store (R84, R85). -/
def State.raisePrefetch (s : State) (key : Nat) : State := (s.setStore (s.store.placePrefetch key)).arbitrate

/-! ## Ends of reads and writes (R87 to R89, R103, R104) -/

/-- Queue a STORE NOTICE (R93). -/
def State.sendStoreNotice (s : State) (n : StoreNotice) : State := s.send (.storeNotice n)

/-- The store when a slot becomes EMPTY: it loses its key and leaves the LRU order (R80, R88). -/
def Store.emptySlot (x : Store) (slot : Fin 24) : Store :=
  let y := x.setSlot slot .empty
  { y with lru := y.lru.filter fun k => k != slot }

/-- A read of a fetch ends (R87 to R89). A slot that is no longer FILLING with the key has received a teach result:
the outcome is discarded (R91). A fetch cut short by a RESTART makes no further read and marks no key (R94), and
queues no BAD_RECORD, at a third bad read neither (log entry 30). -/
def State.endRead (s : State) (slot : Fin 24) (key reads : Nat) (cutShort : Bool) (bytes : List Byte) : State :=
  let filling := s.store.slots.get slot == .filling key
  let idle : Store := { s.store with port := .idle }
  match judgeRead key bytes with
  | .good env =>
    (s.setStore (if filling then (idle.setSlot slot (.ready key env)).toRecent slot else idle)).arbitrate
  | .erased =>
    (s.setStore (if filling then (idle.setSlot slot (.absent key)).toRecent slot else idle)).arbitrate
  | .bad why =>
    if cutShort then (s.setStore (if filling then idle.emptySlot slot else idle)).arbitrate
    else if reads + 1 < 3 then s.setStore { s.store with port := .fetching slot key (reads + 1) false }
    else if filling then
      let x := idle.emptySlot slot
      ((s.setStore { x with badKeys := x.badKeys ||| BitVec.twoPow 256 key }).sendStoreNotice
        (.badRecord key slot why)).arbitrate
    else (s.setStore idle).arbitrate

/-- A write ends with its compare outcome (Table 6-4); the outcome is discarded when a newer placement reached the
slot (R103). -/
def State.endWrite (s : State) (slot : Fin 24) (discard good : Bool) : State :=
  let idle : Store := { s.store with port := .idle }
  if discard then (s.setStore idle).arbitrate
  else match s.store.slots.get slot with
    | .writing key env attempts =>
      if good then (s.setStore (idle.setSlot slot (.ready key env))).arbitrate
      else if attempts = 0 then
        (s.setStore { idle.setSlot slot (.writing key env 1) with
          pendingWrites := s.store.pendingWrites ++ [slot] }).arbitrate
      else
        ((s.setStore (idle.setSlot slot (.unsaved key env))).sendStoreNotice (.unsaved key slot)).arbitrate
    | _ => (s.setStore idle).arbitrate

/-! ## Teach placement (R91, R102, R103) -/

/-- The flash port after a placement into a slot: a write in flight to it goes on, its outcome to be discarded
(R103). -/
def FlashPort.discardWrite (p : FlashPort) (slot : Fin 24) : FlashPort :=
  match p with
  | .writing w key record discard => .writing w key record (discard || w == slot)
  | .idle => .idle
  | .fetching f key reads cutShort => .fetching f key reads cutShort

/-- Place an envelope into a slot (R91, R102, R103). -/
def Store.placeInto (x : Store) (slot : Fin 24) (key : Nat) (env : Envelope) : Store :=
  let y := ((x.unqueue key).setSlot slot (.writing key env 0)).toRecent slot
  { y with
    badKeys := y.badKeys &&& ~~~(BitVec.twoPow 256 key)
    pendingWrites := if x.pendingWrites.contains slot then x.pendingWrites else x.pendingWrites ++ [slot]
    port := x.port.discardWrite slot }

/-- Place a completed envelope for a key: into its resident slot, or into a slot chosen as R81 gives (R102). -/
def State.placeEnvelope (s : State) (key : Nat) (env : Envelope) : State :=
  match (s.store.resident key).or s.chooseSlot with
  | none => s
  | some slot => (s.setStore (s.store.placeInto slot key env)).arbitrate

/-! ## Claims, snapshot and RESTART -/

/-- Whether a key is resident in an UNSAVED slot (R97). -/
def Store.isUnsaved (x : Store) (key : Nat) : Bool :=
  envSlots.any fun slot => match x.slots.get slot with
    | .unsaved k _ => k == key
    | _ => false

/-- The claims on the write limit (R97). -/
def State.claims (s : State) : Nat :=
  (envSlots.countP fun slot => match s.store.slots.get slot with
    | .unsaved _ _ => true
    | .writing _ _ _ => true
    | _ => false) +
  ([s.channels.w0.teach, s.channels.w1.teach].countP fun b => match b with
    | some b => !s.store.isUnsaved b.key
    | none => false)

/-- The number of slots in each of the six states, in the order of Table 5-1 (R93). -/
def Store.slotCounts (x : Store) : List Nat :=
  (List.range 6).map fun k => envSlots.countP fun slot => (x.slots.get slot).stateNumber == k

/-- What the flash port is doing (R93). -/
def FlashPort.view : FlashPort → FlashView
  | .idle => .idle
  | .fetching _ _ _ _ => .fetching
  | .writing _ _ _ _ => .writing

/-- The store after a RESTART (Table 5-4). A fetch in flight makes no further read, also where a teach result has already made
its slot WRITING (log entry 40). -/
def Store.restart (x : Store) : Store :=
  { x with
    queue := []
    port := match x.port with
      | .fetching slot key reads _ => .fetching slot key reads true
      | .writing slot key record discard => .writing slot key record discard
      | .idle => .idle }

/-! ## The commands of the flash -/

/-- FETCH_READ_END: a flash read of a fetch ends (R87). Without a fetch under way there is no read to end. -/
def execFetchReadEnd (bytes : List Byte) (s : State) : Host.Outcome State Fault Refusal :=
  match s.store.port with
  | .fetching slot key reads cutShort => .next (s.endRead slot key reads cutShort bytes)
  | _ => .next s

/-- WRITE_END: a flash write ends; the compare is good when the bytes read back are the record (R77, R104). -/
def execWriteEnd (readBack : List Byte) (s : State) : Host.Outcome State Fault Refusal :=
  match s.store.port with
  | .writing slot _ record discard => .next (s.endWrite slot discard (readBack == record))
  | _ => .next s

/-- WRITE_STATUS_TIMEOUT: a flash status outlasts its limit, after the erase or after the program, which ends the write at
once as a failed compare (R77). -/
def execWriteStatusTimeout (s : State) : Host.Outcome State Fault Refusal :=
  match s.store.port with
  | .writing slot _ _ discard => .next (s.endWrite slot discard false)
  | _ => .next s

end Sys2Proof.Machine
end

