-- ==== Sys2Proof/Machine/Layout.lean ====
section
/-! DEFINITION. The byte layouts of the external formats (section 11.8): outbound messages (Tables 11-7 and 11-11), link frames
(R126, Table 11-9) and the judging of a received copy (R134). -/

namespace Sys2Proof.Machine

/-! ## Outbound messages -/

/-- The layout of a message: its bytes in order, `none` for a byte that the spec gives no value (log entry 6). -/
abbrev Layout := List (Option Byte)

/-- Stated bytes. -/
def stated (bytes : List Byte) : Layout := bytes.map some

/-- Bytes the spec gives no value. -/
def unstated (n : Nat) : Layout := List.replicate n none

/-- One stated byte holding a number. -/
def one (n : Nat) : Layout := stated [byte1 n]

/-- Two stated bytes holding a number. -/
def two (n : Nat) : Layout := stated (beBytes 2 n)

/-- Four stated bytes holding a number. -/
def four (n : Nat) : Layout := stated (beBytes 4 n)

/-- An optional field whose value takes k bytes (section 11.8). -/
def optionalField (k : Nat) (value : Option Layout) : Layout :=
  match value with
  | some v => one 1 ++ v
  | none => one 0 ++ stated (List.replicate k 0)

/-- An optional position, 5 bytes. -/
def optionalPos (x : Option Pos) : Layout := optionalField 4 (x.map fun p => stated (bytes32 p))

/-- A depth of two bytes; a measured depth above 65,535 has no stated bytes (log entry 6). -/
def depthField (d : Nat) : Layout := if d < 65536 then two d else unstated 2

/-- A slot byte, 255 for no slot (section 11.8). -/
def slotByte (slot : Option (Fin 8)) : Layout :=
  match slot with
  | some k => one k.val
  | none => one 255

/-- A count and the entries it counts. -/
def counted {α : Type} (layout : α → Layout) (entries : List α) : Layout :=
  one entries.length ++ entries.flatMap layout

/-- A station byte (section 11.8). -/
def stationField (n : Option Nat) : Layout := stated [stationByte n]

/-- The number of a verdict (Table 11-5). -/
def Verdict.number : Verdict → Nat
  | .none => 0
  | .heavy => 1
  | .hold .loss => 2
  | .hold .crash => 3
  | .hold .void => 4
  | .hold .blind => 5
  | .overlong => 6

/-- The number of a refusal reason (Table 11-5). -/
def Reason.number : Reason → Nat
  | .wrongState => 1
  | .badValue => 2
  | .unknownTool => 3
  | .notMine => 4
  | .toolBroken => 5
  | .toolSpent => 6
  | .busy => 7
  | .tableFull => 8
  | .storeFull => 9

/-- The number of a kind (Table 11-5). -/
def ToolKind.number : ToolKind → Nat
  | .wheel => 0
  | .dresser => 1

/-- The number of a position (Table 11-5). -/
def Seat.number : Seat → Nat
  | .wheelhead .w0 => 0
  | .wheelhead .w1 => 1
  | .dresser .w0 => 2
  | .dresser .w1 => 3
  | .rack => 4

/-- The number of a class (Table 11-5). -/
def classNumber : JournalClass → Nat
  | .main => 0
  | .pin => 1
  | .endFeature => 2

/-- The number of a band source (Table 11-5). -/
def BandName.number : BandName → Nat
  | .envelope => 0
  | .coarse => 1
  | .teach => 2

/-- The number of a dress outcome (Table 11-5). -/
def DressOutcome.number : DressOutcome → Nat
  | .none => 0
  | .void => 1
  | .overlong => 2

/-- The number of a swap kind (Table 11-5). -/
def SwapKind.number : SwapKind → Nat
  | .local => 0
  | .opsOut => 1
  | .opsIn => 2
  | .opsBack => 3
  | .noSister => 4
  | .holderLost => 5

/-- The number of a read outcome (Table 11-5). -/
def BadRead.number : BadRead → Nat
  | .crc => 0
  | .marker => 1
  | .key => 2
  | .count => 3

/-- The number of a line (Table 11-5). -/
def lineNumber : LineId → Nat
  | .a => 0
  | .b => 1

/-- The kind code of a frame (Table 11-9). -/
def FrameKind.code : FrameKind → Nat
  | .status => 1
  | .call => 2
  | .offer => 3
  | .award => 4
  | .taken => 5
  | .decline => 6
  | .release => 7

/-- The number of a channel state (Table 11-5). -/
def ChannelState.number : ChannelState → Nat
  | .idle => 0
  | .armed => 1
  | .grinding => 2
  | .sparkout => 3
  | .dressing => 4
  | .held => 5
  | .stopped => 6

/-- The number of a station state (Table 11-5). -/
def StationState.number : StationState → Nat
  | .unconfigured => 0
  | .configured => 1
  | .running => 2

/-- The number of a flash port state (Table 11-5). -/
def FlashView.number : FlashView → Nat
  | .idle => 0
  | .fetching => 1
  | .writing => 2

/-- The number of an operation status (Table 11-5). -/
def OpStatus.number : OpStatus → Nat
  | .active => 0
  | .handing => 1
  | .orphan => 2

/-- The number of a leaving mark (Table 11-5). -/
def markNumber : Option LeaveCause → Nat
  | none => 0
  | some .reclaim => 1
  | some .withdrawn => 2

/-- The number of a trigger (Table 11-5). -/
def TriggerKind.number : TriggerKind → Nat
  | .wear => 0
  | .break => 1
  | .dressBlocked => 2
  | .dismount => 3

/-- The number of a phase (Table 11-5). -/
def Phase.number : Phase → Nat
  | .calling => 0
  | .awarding _ => 1

/-- The contents of a GRIND RECORD (Table 11-7). -/
def GrindRecord.layout (r : GrindRecord) : Layout :=
  one r.op.variant ++ one r.op.journal ++ one r.slot.val ++ one r.verdict.number ++ one r.source.number ++ one 0 ++
  four r.energy ++ two r.q ++ two r.charge ++ optionalPos r.contact ++ four r.endTravel ++ two r.peakP ++
  two r.peakA ++ two r.samples ++ two r.heldCount ++ stated [flagsByte [r.overrun, r.teachCounted]]

/-- The contents of an unwatched record: the pair, the verdict, the reason, no slot and no contact position; the other
fields are absent and their bytes are not stated (R119, Table 11-7; log entry 6). -/
def unwatchedLayout (op : Op) (reason : Reason) : Layout :=
  one op.variant ++ one op.journal ++ slotByte none ++ one 7 ++ unstated 1 ++ one reason.number ++ unstated 8 ++
  optionalPos none ++ unstated 13

/-- The contents of a DRESS RECORD (Table 11-7). -/
def DressRecord.layout (r : DressRecord) : Layout :=
  one (wheelheadNumber r.wheelhead) ++ one r.wheelSlot.val ++ one r.rollSlot.val ++ one r.outcome.number ++
  optionalField 2 (r.reported.map depthField) ++ optionalField 2 (r.measured.map depthField) ++ two r.depth ++
  four r.wheelCharge ++ two r.rollCharge ++ optionalPos r.contact ++ two r.peakP ++ two r.peakA ++ two r.samples ++
  two r.heldCount ++
  stated [flagsByte [r.depthMismatch, r.sensorLost, r.positionFault, r.overrunWheel, r.overrunRoll]]

/-- The contents of a TOOL NOTICE (R19, Table 11-7); the group byte of a tool without a group is 0 (log entry 29). -/
def ToolNotice.layout (n : ToolNotice) : Layout :=
  match n.tool with
  | some t =>
    one n.slot.val ++ stated (bytes32 t.id) ++ one t.kind.number ++ one t.seat.number ++ one (t.group.getD 0) ++
    one t.state.code ++ stated (beInt 4 t.life) ++ stated [flagsByte [t.overrun, t.dressBlocked]]
  | none => one n.slot.val ++ stated (List.replicate 13 0)

/-- What a QUERY TOOL reply adds to the TOOL NOTICE fields (R20, Table 11-7); the dress-due run of a dresser is absent
and its byte not stated (log entry 6). -/
def detailLayout (d : Option ToolDetail) : Layout :=
  match d with
  | some t =>
    four t.full ++ four t.warn ++ optionalPos t.contacts.main ++ optionalPos t.contacts.pin ++
    optionalPos t.contacts.endFeature ++ (match t.dressRun with
      | some run => one run
      | none => unstated 1)
  | none => stated (List.replicate 24 0)

/-- The contents of a DRESS DUE notice (R74, Table 11-7); the state of no roll is not stated (log entry 6). -/
def DressDue.layout (d : DressDue) : Layout :=
  one d.wheelSlot.val ++ stated (bytes32 d.id) ++ one (wheelheadNumber d.wheelhead) ++ one d.run ++ two d.q ++
  optionalField 1 (d.roll.map fun r => one r.1.val) ++
  (match d.roll with
    | some r => one r.2.code
    | none => unstated 1) ++ stated [flag1 d.blocked]

/-- The contents of a SWAP NOTICE (R171, Table 11-7); the group byte of a notice without a group is 0 (log entry 29). -/
def SwapNotice.layout (n : SwapNotice) : Layout :=
  one n.kind.number ++ one (n.group.getD 0) ++ slotByte n.slot ++ slotByte n.slot2 ++ stationField n.peer ++
  one n.moved.length ++ one n.dropped.length ++ stated (n.moved.map pairByte) ++ stated (n.dropped.map pairByte)

/-- The contents of a LINK NOTICE (R140, Table 11-7); a figure or tag that a reason does not have is not stated (log
entry 6). -/
def LinkNotice.layout : LinkNotice → Layout
  | .queueFull kind => one 0 ++ one kind.code ++ unstated 1
  | .sendFailed kind tag => one 1 ++ one kind.code ++ (match tag with
      | some t => stated [t]
      | none => unstated 1)
  | .lineDown line => one 2 ++ one (lineNumber line) ++ unstated 1
  | .lineUp line => one 3 ++ one (lineNumber line) ++ unstated 1
  | .silent => one 4 ++ unstated 2
  | .duplicateStation => one 5 ++ unstated 2
  | .viewFull station => one 6 ++ one station ++ unstated 1

/-- The contents of a STORE NOTICE (R93, Table 11-7); an UNSAVED notice has no read outcome (log entry 6). -/
def StoreNotice.layout : StoreNotice → Layout
  | .badRecord key slot outcome => one 0 ++ one key ++ one slot.val ++ one outcome.number
  | .unsaved key slot => one 1 ++ one key ++ one slot.val ++ unstated 1

/-! ## The QUERY STATION reply (Table 11-11) -/

/-- A pair byte. -/
def pairField (op : Op) : Layout := stated [pairByte op]

/-- Item 2: the configuration. -/
def configLayout (c : Option Figures) : Layout :=
  match c with
  | some f => one 1 ++ f.values.flatMap fun v => stated (beInt 4 v)
  | none => stated (List.replicate 145 0)

/-- Item 5, for one wheelhead. -/
def counterLayout (c : Counter) (r : Reading) (lost : Bool) : Layout :=
  stated (bytes32 c.count) ++ optionalPos c.contact ++ optionalPos c.contactPrior ++ optionalPos c.dressContact ++
  optionalPos c.dressEnd ++ optionalPos c.journalEnd ++ two r.p ++ two r.a ++ stated [flag1 lost]

/-- Item 6, for one channel. -/
def ChannelView.layout (c : ChannelView) : Layout :=
  one c.state.number ++ (match c.teach with
    | some (key, m, step, grinds) => one 1 ++ one key ++ one m ++ two step ++ one grinds
    | none => stated (List.replicate 6 0))

/-- The bad-key set: key K in bit K mod 8 of byte floor(K / 8). -/
def badKeyBytes (keys : BitVec 256) : List Byte := (List.range 32).map fun k => keys.extractLsb' (8 * k) 8

/-- An operation entry of item 8. -/
def OpEntry.layout (e : OpEntry) : Layout :=
  pairField e.op ++ one (classNumber e.cls) ++ one e.slot.val ++ stationField e.lender ++ one e.status.number ++
  one (markNumber e.mark)

/-- A lent entry of item 8. -/
def LentEntry.layout (e : LentEntry) : Layout :=
  pairField e.op ++ one (classNumber e.cls) ++ one e.group ++ one e.holder

/-- A line of item 9. -/
def Line.layout (l : Line) : Layout := one (if l.up then 0 else 1) ++ one l.bad ++ one l.good

/-- The tool summaries, held entries and reclaim groups of a STATUS (Table 11-9). -/
def StatusBody.lists (b : StatusBody) : List Byte :=
  b.tools.flatMap (fun t => [byte1 t.group, byte1 t.state, flag1 t.reserved] ++ beInt 4 t.life) ++
  b.held.flatMap (fun e => [pairByte e.op, byte1 e.lender]) ++ b.reclaim.map byte1

/-- The counts T, H and G of a STATUS (Table 11-9). -/
def StatusBody.sizes (b : StatusBody) : List Byte :=
  [byte1 b.tools.length, byte1 b.held.length, byte1 b.reclaim.length]

/-- A peer entry of item 10. -/
def PeerView.layout (p : PeerView) : Layout :=
  one p.station ++ two p.status.period ++ four p.ageMs ++ one (if p.live then 0 else 1) ++ one p.status.free ++
  stated p.status.sizes ++ stated p.status.lists

/-- An offer of item 11. -/
def Offer.layout (o : Offer) : Layout :=
  one o.station ++ stated (beInt 4 o.life) ++ one o.freeAfter ++ one o.slot ++ one o.toolState ++ one o.opsCount

/-- An open hand-off of item 11. -/
def HandOff.layout (h : HandOff) : Layout :=
  one h.group ++ one h.slot.val ++ one h.seat.number ++ one h.trigger.number ++ stationField h.lender ++
  one h.needPlaces ++ four h.needLife ++ one h.round ++ one h.phase.number ++ stated [h.tag] ++
  counted pairField h.pairs ++ counted (fun t => stated [t.1] ++ stationField t.2) h.earlier ++
  counted Offer.layout h.offers

/-- A standing record of item 11. -/
def Standing.layout (r : Standing) : Layout :=
  one r.group ++ one r.slot.val ++ one r.seat.number ++ one r.trigger.number ++ stationField r.lender ++
  one r.needPlaces ++ four r.needLife ++ counted pairField r.pairs

/-- A queued trigger of item 11. -/
def Trigger.layout (t : Trigger) : Layout :=
  one t.slot.val ++ one t.group ++ one t.seat.number ++ one t.kind.number

/-- A reservation of item 11. -/
def ReservationView.layout (r : ReservationView) : Layout :=
  one r.slot.val ++ one r.caller ++ stated [r.tag] ++ one r.group ++ one r.opsCount ++ stated [flag1 r.urgent] ++
  four r.leftMs

/-- The contents of a QUERY STATION reply (Table 11-11); without a configuration the free places are not stated (log
entry 6). -/
def Snapshot.layout (x : Snapshot) : Layout :=
  one x.station.number ++ configLayout x.config ++
  stated [flagsByte [x.inboundLost, x.recordsLost, x.noticesLost, x.duplicate, x.faults.w0, x.faults.w1]] ++
  one x.inboundCount ++ one x.outboundCount ++ one x.recordCount ++
  counterLayout x.counters.w0 x.latest.w0 x.lost.w0 ++ counterLayout x.counters.w1 x.latest.w1 x.lost.w1 ++
  one x.missing ++
  x.channels.w0.layout ++ x.channels.w1.layout ++
  x.slotCounts.flatMap one ++ one x.fetchQueue ++ one x.flash.number ++ stated (badKeyBytes x.badKeys) ++
  optionalField 1 (x.part.map one) ++ counted OpEntry.layout x.opList ++ counted LentEntry.layout x.lent ++
  x.lines.a.layout ++ x.lines.b.layout ++ one x.urgentFrames ++ one x.normalFrames ++ stated [flag1 x.statusHeld] ++
  one ((x.sendingKind.map FrameKind.code).getD 0) ++ stated [flag1 x.silent] ++
  (match x.free with
    | some n => one n
    | none => unstated 1) ++ counted one x.reclaim ++ stated [flag1 x.mark] ++ stated [flag1 x.viewFull] ++
  counted PeerView.layout x.peers ++
  counted HandOff.layout x.handOffs ++ counted Standing.layout x.standing ++ counted Trigger.layout x.triggers ++
  counted ReservationView.layout x.reservations ++ stated [x.tag]

/-- The accepted contents of a REPLY; the TEACH contents are M in one byte and the step in two (log entry 8). -/
def Contents.layout : Contents → Layout
  | .plain => []
  | .clamped numbers => counted one numbers
  | .teach m step => one m ++ two step
  | .tool notice detail => notice.layout ++ detailLayout detail
  | .station snapshot => snapshot.layout

/-- The outcome, reason and contents of a REPLY (R181, Table 11-7). -/
def Answer.layout : Answer → Layout
  | .accepted contents => stated [Config.outcomeByte true] ++ one 0 ++ contents.layout
  | .refused reason => stated [Config.outcomeByte false] ++ one reason.number

/-- The code and contents of an outbound message (Table 11-7). -/
def OutMsg.body : OutMsg → Layout
  | .reply code answer => one 0x80 ++ stated [code] ++ answer.layout
  | .grindRecord r => one 0x81 ++ r.layout
  | .unwatched op reason => one 0x81 ++ unwatchedLayout op reason
  | .dressRecord r => one 0x82 ++ r.layout
  | .toolNotice n => one 0x83 ++ n.layout
  | .dressDue d => one 0x84 ++ d.layout
  | .swapNotice n => one 0x85 ++ n.layout
  | .linkNotice n => one 0x86 ++ n.layout
  | .storeNotice n => one 0x87 ++ n.layout

/-- An outbound message: a 2-byte length, the code and the contents (R174). -/
def OutMsg.layout (m : OutMsg) : Layout := two m.body.length ++ m.body

/-- The bytes of a layout, its unstated ones drawn as free values (log entry 6). -/
def fill (draws : Nat) : Layout → List Byte
  | [] => []
  | some b :: rest => b :: fill draws rest
  | none :: rest => Config.freeByte draws :: fill (draws + 1) rest

/-- The number of free values a layout draws. -/
def Layout.draws (l : Layout) : Nat := l.countP Option.isNone

/-! ## Link frames (R126, Table 11-9) -/

/-- The reason byte of a DECLINE (Table 11-5). -/
def DeclineReason.byte : DeclineReason → Byte
  | .tooLate => 0
  | .unfit => 1
  | .withdrawn => 2
  | .other code => code

/-- The reason a DECLINE's byte names. -/
def declineReason (b : Byte) : DeclineReason :=
  if b = 0 then .tooLate else if b = 1 then .unfit else if b = 2 then .withdrawn else .other b

/-- The payload of a frame (Table 11-9). -/
def FrameBody.payload : FrameBody → List Byte
  | .status b => beBytes 2 b.period ++ [byte1 b.free] ++ b.sizes ++ b.lists
  | .call c =>
    [c.tag, byte1 c.group, flag1 c.urgent] ++ beBytes 2 c.window ++ [byte1 c.needPlaces] ++ beBytes 4 c.needLife ++
    [byte1 c.ops.length] ++ c.ops.flatMap fun o => [pairByte o.op, byte1 (classNumber o.cls), stationByte o.lender]
  | .offer o =>
    [byte1 o.caller, o.tag, byte1 o.group, flag1 o.urgent] ++ beInt 4 o.life ++
    [byte1 o.freeAfter, byte1 o.slot, byte1 o.toolState, byte1 o.opsCount]
  | .award tag group winner => [tag, byte1 group, stationByte winner]
  | .taken caller tag => [byte1 caller, tag]
  | .decline station tag reason => [byte1 station, tag, reason.byte]
  | .release lender ops => [byte1 lender, byte1 ops.length] ++ ops.map pairByte

/-- The bytes a frame's CRC covers: kind and source, length, payload (R126). -/
def frameHead (station : Nat) (body : FrameBody) : List Byte :=
  [byte1 (body.kind.code * 16 + (station - 1)), byte1 body.payload.length] ++ body.payload

/-- The bytes of a frame as a station sends it (R126). -/
def frameBytes (station : Nat) (body : FrameBody) : List Byte :=
  openingPattern ++ frameHead station body ++ crcBytes (frameHead station body)

/-- The bit cells the station drives while it sends a frame (R125). -/
def State.drivenCells (s : State) : List (Bool × Bool) :=
  match s.link.queue.find? QueuedFrame.sending with
  | some f => cellsOf (frameBytes s.figures.station f.body)
  | none => []

/-- A tool summary of a STATUS payload. -/
def readSummary (b : List Byte) : ToolSummary :=
  { group := natOfBytes (b.take 1), state := natOfBytes ((b.drop 1).take 1)
    reserved := natOfBytes ((b.drop 2).take 1) != 0, life := intOfBytes (b.drop 3) }

/-- A held entry of a STATUS payload. -/
def readHeld (b : List Byte) : HeldEntry := { op := pairOf (b.headD 0), lender := natOfBytes (b.drop 1) }

/-- The STATUS of a payload whose length fits its counts (Table 11-9). -/
def readStatus (p : List Byte) : Option StatusBody :=
  match p with
  | p1 :: p0 :: free :: t :: h :: g :: rest =>
    let tools := t.toNat
    let held := h.toNat
    let groups := g.toNat
    if tools ≤ 8 ∧ held ≤ 24 ∧ groups ≤ 8 ∧ rest.length = 7 * tools + 2 * held + groups then
      some
        { period := natOfBytes [p1, p0], free := free.toNat
          tools := (chunks 6 tools (rest.take (7 * tools))).map readSummary
          held := (chunks 1 held ((rest.drop (7 * tools)).take (2 * held))).map readHeld
          reclaim := (rest.drop (7 * tools + 2 * held)).map BitVec.toNat }
    else none
  | _ => none

/-- The class a class byte of a CALL names (Table 11-5; log entry 7). -/
def readClass (b : Byte) : JournalClass := (classOf b).getD (Config.unlistedClass b)

/-- The urgency an urgency byte names, URGENT when true (Table 11-5; log entry 7). -/
def readUrgency (b : Byte) : Bool :=
  if b = 0 then false else if b = 1 then true else Config.unlistedUrgency b

/-- A called operation of a CALL payload (Table 11-9); a pair byte of a variant above 7 is taken as it comes (log entry 49). -/
def readCalled (b : List Byte) : CalledOp :=
  { op := pairOf (b.headD 0), cls := readClass ((b.drop 1).headD 0), lender := stationOf ((b.drop 2).headD 0) }

/-- The CALL of a payload whose length fits its count (Table 11-9). -/
def readCall (p : List Byte) : Option CallBody :=
  match p with
  | tag :: group :: urgency :: w1 :: w0 :: places :: l3 :: l2 :: l1 :: l0 :: n :: rest =>
    let ops := n.toNat
    if 1 ≤ ops ∧ ops ≤ 12 ∧ rest.length = 3 * ops then
      some
        { tag := tag, group := group.toNat, urgent := readUrgency urgency, window := natOfBytes [w1, w0]
          needPlaces := places.toNat, needLife := natOfBytes [l3, l2, l1, l0]
          ops := (chunks 2 ops rest).map readCalled }
    else none
  | _ => none

/-- The frame of a kind code and a payload; none for an unknown kind or a length that does not fit (R135, step 4). -/
def readFrame (kind : Nat) (p : List Byte) : Option FrameBody :=
  match kind, p with
  | 1, p => (readStatus p).map .status
  | 2, p => (readCall p).map .call
  | 3, [caller, tag, group, urgency, l3, l2, l1, l0, free, slot, state, ops] =>
    some (.offer
      { caller := caller.toNat, tag := tag, group := group.toNat, urgent := readUrgency urgency
        life := intOfBytes [l3, l2, l1, l0], freeAfter := free.toNat, slot := slot.toNat, toolState := state.toNat
        opsCount := ops.toNat })
  | 4, [tag, group, winner] => some (.award tag group.toNat (stationOf winner))
  | 5, [caller, tag] => some (.taken caller.toNat tag)
  | 6, [station, tag, reason] => some (.decline station.toNat tag (declineReason reason))
  | 7, lender :: n :: pairs =>
    if 1 ≤ n.toNat ∧ n.toNat ≤ 24 ∧ pairs.length = n.toNat then some (.release lender.toNat (pairs.map pairOf)) else none
  | _, _ => none

/-- What a GOOD copy carries: its kind code, its source station and its payload (R126, R135). -/
structure GoodCopy where
  kind : Nat
  station : Nat
  payload : List Byte
deriving DecidableEq, Repr

/-- Judge the copy of a line: a GOOD copy with what it carries, or none for a BAD or absent one (R134). -/
def judgeCopy (copy : LineCopy) : Option GoodCopy :=
  match copy with
  | none => none
  | some cells => match bitsToBytes (cellBits cells) with
    | head :: length :: rest =>
      let n := length.toNat
      if 120 < n ∨ rest.length < n + 2 then none
      else if crc16 (head :: length :: rest.take n) = word16 ((rest.drop n).headD 0) ((rest.drop (n + 1)).headD 0) then
        some { kind := head.toNat / 16, station := head.toNat % 16 + 1, payload := rest.take n }
      else none
    | _ => none

end Sys2Proof.Machine
end

