-- ==== Sys2Proof/Machine/LinkControl.lean ====
section
/-! DEFINITION. The link controller (chapter 8): beginning, completing and stopping a frame, and taking a received frame. -/

namespace Sys2Proof.Machine

/-! ## The candidate and its gap (R127, R128, R133) -/

/-- The candidate frame: the one being sent, or the oldest urgent one, or the oldest (R128). -/
def Link.candidate (l : Link) : Option QueuedFrame :=
  ((l.queue.find? QueuedFrame.sending).or (l.queue.find? fun f => f.body.isUrgent)).or l.queue.head?

/-- The class gap of a frame, in bit times (R127). -/
def classGap (body : FrameBody) : Nat :=
  if body.isUrgent then 10 else if body.isStatus then 26 else 18

/-- The back-off of a frame with an attempt count, in bit times (R133). -/
def backOff (station attempts : Nat) : Nat := 12 * ((station - 1 + 5 * attempts) % 16)

/-- The required gap of a frame (R127). -/
def requiredGap (station : Nat) (f : QueuedFrame) : Nat :=
  classGap f.body + (if f.attempts = 0 then 0 else backOff station f.attempts)

/-- Mark the first frame that meets a condition as being sent. -/
def startFirst (cond : QueuedFrame → Bool) : List QueuedFrame → List QueuedFrame
  | [] => []
  | f :: rest => if cond f then { f with sending := true } :: rest else f :: startFirst cond rest

/-- The queue when its candidate begins. -/
def Link.startCandidate (l : Link) : List QueuedFrame :=
  if l.queue.any fun f => f.body.isUrgent then startFirst (fun f => f.body.isUrgent) l.queue
  else startFirst (fun _ => true) l.queue

/-- The receivers serve read-back alone (R131): neither looks for a pattern, and every copy that has begun is given up
(log entry 41). -/
def Link.clearCopies (l : Link) : Link :=
  { l with
    begun := []
    lines := ⟨{ l.lines.a with looking := false }, { l.lines.b with looking := false }⟩ }

/-- Whether the candidate may begin now (R127). -/
def State.mayBegin (s : State) : Bool :=
  s.station == .running && !s.link.isSending && (match s.link.candidate with
    | some f => decide (requiredGap s.figures.station f ≤ s.link.quietTime)
    | none => false)

/-- FRAME_BEGIN: `wait` bit times of quiet pass, and the candidate begins if its required gap is reached (R127,
R131). While a frame is being sent the lines are not quiet, and in UNCONFIGURED no bit rate is in force (R125). -/
def execFrameBegin (wait : Nat) (s : State) : Host.Outcome State Fault Refusal :=
  if s.station = .unconfigured ∨ s.link.isSending = true then .next s
  else
    let s1 := s.setLink { s.link with quietTime := s.link.quietTime + wait }
    if s1.mayBegin then .next (s1.setLink ({ s1.link with queue := s1.link.startCandidate }.clearCopies))
    else .next s1

/-! ## The end of a sending (R130 to R132) -/

/-- The frame being sent. -/
def Link.sendingFrame (l : Link) : Option QueuedFrame := l.queue.find? QueuedFrame.sending

/-- The frame being sent leaves the queue, its release the last edge of the quiet time (R131). -/
def Link.leave (l : Link) : Link := { l with queue := l.queue.filter (fun f => !f.sending), quietTime := 0 }

/-- A STATUS is reported SENT: the moment is kept and the period timer restarts (R130, R145). -/
def State.statusSent (s : State) : State :=
  s.setSister { s.sister with lastSent := some s.clock, period := some (s.clock + halfMs s.figures.statusPeriod) }

/-- SENDING_COMPLETE: the last CRC bit has been driven with every read-back equal (R131). -/
def execSendingComplete (s : State) : Host.Outcome State Fault Refusal :=
  match s.link.sendingFrame with
  | none => .next s
  | some f =>
    let s1 := s.setLink s.link.leave
    .next (s.finish (if f.body.isStatus then s1.statusSent else s1.reportSent f.body))

/-- The frame being sent stops after a collision and waits to be sent again (R132). -/
def Link.stopSending (l : Link) : Link :=
  { l with
    queue := l.queue.map fun f => if f.sending then { f with sending := false, attempts := f.attempts + 1 } else f
    quietTime := 0 }

/-- A frame given up after its eighth collision: a STATUS silently, any other with SEND_FAILED and the outcome
DISCARDED (R132). -/
def State.giveUp (s : State) (body : FrameBody) : State :=
  if body.isStatus then s
  else (s.sendLinkNotice (.sendFailed body.kind body.tag)).reportDiscarded body

/-- COLLISION: a read-back on a line differs from the level driven (R132). A DOWN line is not read back (R138). -/
def execCollision (line : LineId) (s : State) : Host.Outcome State Fault Refusal :=
  match s.link.sendingFrame with
  | none => .next s
  | some f =>
    if (s.link.lines.get line).up = false then .next s
    else if f.attempts + 1 < 8 then .next (s.finish (s.setLink s.link.stopSending))
    else .next (s.finish ((s.setLink s.link.leave).giveUp f.body))

/-! ## Edges and copies (R125, R134, R135) -/

/-- The other line. -/
def otherLine : LineId → LineId
  | .a => .b
  | .b => .a

/-- Whether a copy of the frame has begun on a line. -/
def FrameLines.has : FrameLines → LineId → Bool
  | .a, .a => true
  | .b, .b => true
  | .both, _ => true
  | .a, .b => false
  | .b, .a => false

/-- A frame of which a copy has begun on one line alone. -/
def FrameLines.alone : LineId → FrameLines
  | .a => .a
  | .b => .b

/-- The frames under way once a copy begins on a line, gap bit times after the latest opening pattern completed on the
other. It is of one frame with the copy that pattern began when that frame has no copy on this line and the gap is at
most 2 (R135). Of the earlier frames only that one may still have a copy in progress: the line was quiet, which has ended
every copy on it (R134). -/
def joinFrame (begun : List FrameLines) (line : LineId) (gap : Nat) : List FrameLines :=
  match (begun.filter fun f => f.has (otherLine line)).getLast? with
  | none => [.alone line]
  | some f => if !f.has line && decide (gap ≤ 2) then [.both] else [f, .alone line]

/-- The receiver of a line at an edge: it looks for the opening pattern once its line is quiet, and a pattern that it was
looking for begins a copy. A pattern within a copy is none (R134; log entry 45). -/
def Link.receive (l : Link) (line : LineId) (edge : Edge) : Link :=
  let looks := (l.lines.get line).looking || edge.quiet
  { l with
    lines := l.lines.set line { l.lines.get line with looking := looks && edge.pattern.isNone }
    begun := match edge.pattern with
      | some gap => if looks then joinFrame l.begun line gap else l.begun
      | none => l.begun }

/-- LINE_EDGE: an edge on a line; one on an UP line returns the quiet time to 0, and the receiver takes it while the
station is not sending (R125, R127, R134). -/
def execLineEdge (line : LineId) (edge : Edge) (s : State) : Host.Outcome State Fault Refusal :=
  if s.station = .unconfigured then .next s
  else
    let l := if (s.link.lines.get line).up then { s.link with quietTime := 0 } else s.link
    .next (s.setLink (if l.isSending then l else l.receive line edge))

/-- The frame that is taken, when one is: the oldest of which every line that began a copy has ended that copy (R135; log
entry 14). -/
def Link.endedFrame (l : Link) (a b : LineCopy) : Option FrameLines :=
  l.begun.find? fun f => (!f.has .a || a.isSome) && (!f.has .b || b.isSome)

/-- The copies of a frame among those that a row brings; a line that began none has an absent one (R134, R135). -/
def FrameLines.copies : FrameLines → LineCopy → LineCopy → LineCopy × LineCopy
  | .a, x, _ => (x, none)
  | .b, _, y => (none, y)
  | .both, x, y => (x, y)

/-- The copies of the frame that is taken, when one is (R135). -/
def Link.frameEnds (l : Link) (a b : LineCopy) : Option (LineCopy × LineCopy) :=
  (l.endedFrame a b).map fun f => f.copies a b

/-! ## Line degrade (R137, R138) -/

/-- The runs of a line after a frame of which at least one copy is GOOD (R137). -/
def Line.runs (l : Line) (good otherGood : Bool) : Line :=
  if good then { l with bad := 0, good := min (l.good + 1) 64 }
  else if otherGood then { l with bad := min (l.bad + 1) 16, good := 0 }
  else l

/-- Whether an UP line goes DOWN at a frame, from its runs after the frame; `otherUp` is the state of the other line
before it (R137; log entry 9). -/
def Line.goesDown (l : Line) (good otherGood otherUp : Bool) : Bool :=
  l.up && !good && otherGood && otherUp && decide (l.bad = 16)

/-- Whether a DOWN line goes UP at a frame, from its runs after the frame (R138). -/
def Line.goesUp (l : Line) : Bool := !l.up && decide (l.good = 64)

/-- Put a line's runs and state after a frame, with its LINE_DOWN or LINE_UP notice (R137, R138). -/
def State.updateLine (s : State) (line : LineId) (l : Line) (good otherGood otherUp : Bool) : State :=
  let r := l.runs good otherGood
  let put (x : Line) : State := s.setLink { s.link with lines := s.link.lines.set line x }
  if r.goesDown good otherGood otherUp then (put { r with up := false }).sendLinkNotice (.lineDown line)
  else if r.goesUp then (put { r with up := true, bad := 0 }).sendLinkNotice (.lineUp line)
  else put r

/-- The line runs at a frame taken, line A first (R135, step 2). -/
def State.updateLines (s : State) (goodA goodB : Bool) : State :=
  let lines := s.link.lines
  (s.updateLine .a lines.a goodA goodB lines.b.up).updateLine .b lines.b goodB goodA lines.a.up

/-! ## Taking a frame (R135, R136) -/

/-- The copy selected: A if line A is UP and its copy GOOD, or else B likewise (R135, step 1). -/
def Link.select (l : Link) (a b : LineCopy) : Option GoodCopy :=
  ((judgeCopy a).filter fun _ => l.lines.a.up).or ((judgeCopy b).filter fun _ => l.lines.b.up)

/-- A copy of this station's own number: the flag, and a notice if it was clear (R136). -/
def State.markDuplicate (s : State) : State :=
  let s1 := s.setLink { s.link with duplicate := true }
  if s.link.duplicate then s1 else s1.sendLinkNotice .duplicateStation

/-- The silence timer restarts and the silent condition ends (R139). -/
def State.restartSilence (s : State) : State :=
  s.setLink { s.link with silence := some (s.clock + halfMs (3 * s.figures.statusPeriod)), silent := false }

/-- Steps 3 to 5 of R135 for the selected copy. -/
def State.acceptCopy (s : State) (c : GoodCopy) : State :=
  if c.station = s.figures.station then s.markDuplicate
  else match readFrame c.kind c.payload with
    | some body => (s.deliver c.station body).restartSilence
    | none => s

/-- A frame is taken from its copies on the two lines (R135). In UNCONFIGURED the receivers take nothing (R125), while
the station sends they serve read-back alone (R131), and without a copy that began no frame is taken (R134). -/
def State.takeFrame (s : State) (a b : LineCopy) : State :=
  if s.station = .unconfigured ∨ s.link.isSending = true then s
  else match s.link.endedFrame a b with
    | none => s
    | some f =>
      let (x, y) := f.copies a b
      let s1 := (s.setLink { s.link with begun := s.link.begun.erase f }).updateLines (judgeCopy x).isSome (judgeCopy y).isSome
      match s.link.select x y with
      | some c => s.finish (s1.acceptCopy c)
      | none => s.finish s1

/-- STATUS_RECEIVED (R135, R147). -/
def execStatusReceived (a b : LineCopy) (s : State) : Host.Outcome State Fault Refusal := .next (s.takeFrame a b)

/-- CALL_RECEIVED (R135, R158). -/
def execCallReceived (a b : LineCopy) (s : State) : Host.Outcome State Fault Refusal := .next (s.takeFrame a b)

/-- OFFER_RECEIVED (R135, R160). -/
def execOfferReceived (a b : LineCopy) (s : State) : Host.Outcome State Fault Refusal := .next (s.takeFrame a b)

/-- AWARD_RECEIVED (R135, R162). -/
def execAwardReceived (a b : LineCopy) (s : State) : Host.Outcome State Fault Refusal := .next (s.takeFrame a b)

/-- TAKEN_RECEIVED (R135, R163). -/
def execTakenReceived (a b : LineCopy) (s : State) : Host.Outcome State Fault Refusal := .next (s.takeFrame a b)

/-- DECLINE_RECEIVED (R135, R164). -/
def execDeclineReceived (a b : LineCopy) (s : State) : Host.Outcome State Fault Refusal := .next (s.takeFrame a b)

/-- RELEASE_RECEIVED (R135, R170). -/
def execReleaseReceived (a b : LineCopy) (s : State) : Host.Outcome State Fault Refusal := .next (s.takeFrame a b)

/-- FRAME_DROPPED (R135). -/
def execFrameDropped (a b : LineCopy) (s : State) : Host.Outcome State Fault Refusal := .next (s.takeFrame a b)

/-- DUPLICATE_STATION (R136). -/
def execDuplicateStation (a b : LineCopy) (s : State) : Host.Outcome State Fault Refusal := .next (s.takeFrame a b)

end Sys2Proof.Machine
end

