-- ==== Sys2Proof/Machine/Request.lean ====
section
/-! DEFINITION. Requests at the machine port: the inbound queue of messages and the answering of a request (R175, R181). -/

namespace Sys2Proof.Machine

/-- The inbound message of a request command. -/
def requestBytes (i : Instr) : List Byte := (encodeRequest i).getD []

/-- A complete message is offered to the inbound queue: discarded with INBOUND_LOST when the queue holds 4 (R175). -/
def State.offerInbound (s : State) (message : List Byte) : State :=
  if s.port.inbound.length < 4 then s.setPort { s.port with inbound := s.port.inbound ++ [message] }
  else s.setPort { s.port with inboundLost := true }

/-- The taken message leaves the inbound queue at once (R175). -/
def State.popInbound (s : State) : State := s.setPort { s.port with inbound := s.port.inbound.tail }

/-- Answer a request by its checks: REFUSED with the first failing one, or its effect (R181). -/
def State.answer {α : Type} (s : State) (code : Byte) (checked : Except Reason α) (effect : α → State) : State :=
  match checked with
  | .error reason => s.refuse code reason
  | .ok x => effect x

end Sys2Proof.Machine
end

