-- ==== Sys2Proof/Machine/PortControl.lean ====
section
/-! DEFINITION. The machine port and the station (chapter 11): transactions, CONFIGURE, START, RESTART, full reset, QUERY
STATION and the refusal of an unknown message. -/

namespace Sys2Proof.Machine

/-! ## Transactions (R173, R174, R182) -/

/-- The complete message a transaction brought in, from the levels of MSI at its clocks (R173). -/
def receivedMessage (bits : List Bool) : Option (List Byte) :=
  match bitsToBytes bits with
  | [] => none
  | length :: rest =>
    if length.toNat = 0 ∨ rest.length < length.toNat then none else some (rest.take length.toNat)

/-- The slot whose TOOL NOTICE a message is. -/
def OutMsg.noticeSlot : OutMsg → Option (Fin 8)
  | .toolNotice n => some n.slot
  | _ => none

/-- The pending notice of a slot joins the back of the queue (R182). -/
def Port.joinPending (p : Port) (slot : Fin 8) : Port :=
  match p.pendingNotices.get slot with
  | some n => { p with outbound := p.outbound ++ [.toolNotice n], pendingNotices := p.pendingNotices.set slot none }
  | none => p

/-- The message being sent leaves at its last bit, and a notice pending behind it joins (R174, R182). -/
def Port.sent (p : Port) : Port :=
  match p.outbound with
  | m :: rest =>
    let q := { p with outbound := rest, sending := false, shifter := [] }
    match m.noticeSlot with
    | some slot => q.joinPending slot
    | none => q
  | [] => { p with sending := false, shifter := [] }

/-- MCS_N rises before the last bit: the message keeps its place, but for a TOOL NOTICE with one pending behind it,
which is removed as superseded (R174, R182). -/
def Port.cutShort (p : Port) : Port :=
  match p.outbound.head?.bind OutMsg.noticeSlot with
  | some slot =>
    if (p.pendingNotices.get slot).isSome then p.sent else { p with sending := false, shifter := [] }
  | none => { p with sending := false, shifter := [] }

/-- TRANSACTION_START: MCS_N falls, and the head of the queue becomes the message being sent (R174). -/
def execTransactionStart (s : State) : Host.Outcome State Fault Refusal :=
  match s.port.select with
  | .high => match s.port.outbound with
    | m :: _ =>
      let s1 := s.setPort { s.port with select := .low, sending := true, shifter := fill s.freeDraws m.layout }
      .next { s1 with freeDraws := s.freeDraws + Layout.draws m.layout }
    | [] => .next (s.setPort { s.port with select := .low, shifter := [] })
  | _ => .next s

/-- The level of MSO at the k-th clock, from 0, of the transaction as it stands: the bytes in the shifter, most significant
bit first, and zeros after the last or when nothing is sent; none, the line high-impedance, outside a transaction (R173,
R174; in the transaction that a full reset cut off, log entry 24). -/
def Port.mso (p : Port) (k : Nat) : Option Bool :=
  match p.select with
  | .low => some ((p.shifter.flatMap byteBits).getD k false)
  | .high => none
  | .ignored => none

/-! ## CONFIGURE (R177) -/

/-- The checks of a CONFIGURE (R177). -/
def State.checkConfigure (s : State) (figures : List (Byte × BitVec 32)) : Except Reason Unit :=
  if s.station ≠ .unconfigured then .error .wrongState
  else if figureNumbersBad figures then .error .badValue
  else if stationFigureBad figures then .error .badValue
  else if dirOrRoutingBad figures then .error .badValue
  else .ok ()

/-- An accepted CONFIGURE: the figures, CONFIGURED, and the silence timer (R139, R177). -/
def State.configureStation (s : State) (c : Figures) : State :=
  let s1 := { s with config := some c, station := .configured }
  s1.setLink { s1.link with silence := some (s1.clock + halfMs (3 * c.statusPeriod)) }

/-- The handling of a CONFIGURE (R177). -/
def State.handleConfigure (figures : List (Byte × BitVec 32)) (s : State) : State :=
  s.answer 0x01 (s.checkConfigure figures) fun _ =>
    (s.configureStation (takeFigures figures)).accept 0x01 (.clamped (clampedFigures figures))

/-! ## START (R178) -/

/-- An accepted START: RUNNING, with the status-changed mark set (R145, R178). -/
def State.startStation (s : State) : State := { s with station := .running }.markStatus

/-- The handling of a START (R178). -/
def State.handleStart (s : State) : State :=
  if s.station = .configured then s.startStation.accept 0x02 else s.refuse 0x02 .wrongState

/-! ## RESTART (R179) -/

/-- A counter after a RESTART: every capture absent (Tables 2-2 and 2-4). R36 has a RESTART in ARMED leave both contact
captures as they were; the model follows R38 (log entry 39). -/
def Counter.restart (c : Counter) : Counter :=
  { c with contact := none, contactPrior := none, dressContact := none, dressEnd := none, journalEnd := none }

/-- The sister unit after a RESTART (Tables 7-4, 9-2 and 10-4). -/
def Sister.restart (x : Sister) : Sister :=
  { Sister.reset with
    opList := (x.opList.filter fun e => e.mark.isNone).map fun e =>
      if e.status = .handing then { e with status := .active } else e
    lent := x.lent, tag := x.tag, mark := true }

/-- The link controller after a RESTART (Table 8-4): a frame being sent stops, which is its last edge (R125). -/
def Link.restart (l : Link) : Link :=
  { l with queue := [], quietTime := if l.isSending then 0 else l.quietTime }

/-- The machine port after a RESTART (R179). -/
def Port.restart (p : Port) : Port :=
  { p with
    inbound := [], outbound := [], sending := false, pendingNotices := Vector.replicate 8 none
    inboundLost := false, recordsLost := false, noticesLost := false }

/-- Every block at its RESTART values (R179). -/
def State.restart (s : State) : State :=
  { s with
    station := .configured
    counters := ⟨s.counters.w0.restart, s.counters.w1.restart⟩
    channels := ⟨Channel.reset, Channel.reset⟩
    store := s.store.restart
    sister := s.sister.restart
    link := s.link.restart
    port := s.port.restart }

/-- The handling of a RESTART: its REPLY comes first, then the OPS_BACK notices of the marked entries (R124, R179). -/
def State.handleRestart (s : State) : State :=
  if s.station = .unconfigured then s.refuse 0x03 .wrongState
  else
    (s.sister.opList.filter fun e => e.mark.isSome).foldl
      (fun t e => t.sendSwap (s.swapFor .opsBack e.lender [e])) (s.restart.accept 0x03)

/-! ## Full reset (R180) -/

/-- FULL_RESET: every block at its full-reset values, with the input levels found when reset ends (R180). The model's
own queue of commands and counter of free values are kept. -/
def execFullReset (pair0 pair1 : PhasePair) (selectLow : Bool) (s : State) : Host.Outcome State Fault Refusal :=
  .next { State.afterReset pair0 pair1 (if selectLow then .ignored else .high) with
    pending := s.pending, freeDraws := s.freeDraws }

/-! ## QUERY STATION (R184) -/

/-- A channel as the snapshot shows it (R106). -/
def Channel.view (c : Channel) : ChannelView :=
  { state := c.state, teach := c.teach.map fun b => (b.key, b.m, b.step, b.counted) }

/-- A peer entry as the snapshot shows it (R152), its age rounded down to whole milliseconds (log entry 32). -/
def Peer.view (p : Peer) (clock : Nat) : PeerView :=
  { station := p.station, ageMs := (clock - p.heardAt) / 2, live := p.live, status := p.status }

/-- A reservation as the snapshot shows it (R171), its time left rounded down to whole milliseconds, and 0 past its expiry
(log entry 32). -/
def Reservation.view (r : Reservation) (slot : Fin 8) (clock : Nat) : ReservationView :=
  { slot := slot, caller := r.caller, tag := r.tag, group := r.group, opsCount := r.opsCount, urgent := r.urgent
    leftMs := (r.expiry - clock) / 2 }

/-- The snapshot of a QUERY STATION reply (R184). The rules give no order to some of its lists: lent entries, open
hand-offs with the earlier tags of each, standing records and peer entries stand in the order they came, reservations by rising
slot (log entry 33). -/
def State.snapshot (s : State) : Snapshot :=
  { station := s.station, config := s.config, inboundLost := s.port.inboundLost, recordsLost := s.port.recordsLost
    noticesLost := s.port.noticesLost, duplicate := s.link.duplicate
    faults := ⟨s.counters.w0.fault, s.counters.w1.fault⟩, inboundCount := s.port.inbound.length
    outboundCount := s.port.outbound.length, recordCount := s.port.records, counters := s.counters
    latest := s.sampler.latest, lost := s.sampler.lost, missing := s.sampler.missing
    channels := ⟨s.channels.w0.view, s.channels.w1.view⟩, slotCounts := s.store.slotCounts
    fetchQueue := s.store.queue.length, flash := s.store.port.view, badKeys := s.store.badKeys, part := s.sister.part
    opList := s.sister.opList, lent := s.sister.lent, lines := s.link.lines
    urgentFrames := s.link.queue.countP fun f => f.body.isUrgent
    normalFrames := s.link.queue.countP fun f => !f.body.isUrgent && !f.body.isStatus
    statusHeld := s.link.queue.any fun f => f.body.isStatus, sendingKind := s.link.sendingFrame.map fun f => f.body.kind
    silent := s.link.silent, free := s.config.map fun _ => s.free, reclaim := s.reclaimGroups, mark := s.sister.mark
    viewFull := s.sister.viewFull, peers := s.sister.peers.map fun p => p.view s.clock, handOffs := s.sister.handOffs
    standing := s.sister.standing, triggers := s.sister.triggers
    reservations := toolSlots.filterMap fun slot =>
      (s.sister.reservations.get slot).map fun r => r.view slot s.clock
    tag := s.sister.tag }

/-- The handling of a QUERY STATION: the snapshot is read, every sticky flag is cleared, and the reply is placed
(R184). -/
def State.handleQueryStation (s : State) : State := s.clearSticky.accept 0x11 (.station s.snapshot)

/-! ## Unknown messages (R175) -/

/-- The handling of a message whose code or length is not one of Table 11-6: refused BAD_VALUE, echoing the code
(R175). -/
def State.handleUnknown (message : List Byte) (s : State) : State := s.refuse (message.headD 0) .badValue

end Sys2Proof.Machine
end

