-- ==== Sys2Proof/Machine/Life.lean ====
section
/-! DEFINITION. The life unit (chapter 1, with sections 4.5 and 1.8): mounting and dismounting, the tool check, charges,
breakage, last contacts and the dress-due run. -/

namespace Sys2Proof.Machine

/-! ## Life levels and charges (R3, R10 to R13) -/

/-- The warning level of a tool (R3). -/
def warnLevel (full warnPct : Nat) : Nat := full * warnPct / 100

/-- The state of a newly mounted tool (R6). -/
def mountedState (life : Int) (warn : Nat) : ToolState :=
  if life ≤ 0 then .spent else if life ≤ warn then .worn else .fresh

/-- The state after a charge, from the state before it and the new remaining life (R13). -/
def chargedState (before : ToolState) (warn : Nat) (life : Int) : ToolState :=
  match before with
  | .broken => .broken
  | .spent => .spent
  | .worn => if life ≤ 0 then .spent else .worn
  | .fresh | .inService => if life ≤ 0 then .spent else if life ≤ warn then .worn else .inService

/-- A charge applied to a tool: its remaining life, its overrun flag and its state (R12, R13). -/
def Tool.charge (t : Tool) (allowance c : Nat) : Tool :=
  let life := max (t.life - c) (-(allowance : Int))
  { t with life := life, overrun := t.overrun || decide (t.life ≤ 0), state := chargedState t.state t.warn life }

/-- Whether a charge found the remaining life at or below 0 (R12, R18). -/
def Tool.overruns (t : Tool) : Bool := decide (t.life ≤ 0)

/-- Whether a change of a tool calls for a TOOL NOTICE: its state changed or its overrun flag was set (R14, R19). -/
def Tool.noticed (before after : Tool) : Bool := before.state != after.state || (!before.overrun && after.overrun)

/-- The clamped energy ratio q of a closed journal; `eRef` is given when the band source is ENVELOPE (R10). -/
def energyRatio (energy : Nat) (eRef : Option Nat) : Nat :=
  let q := match eRef with
    | some r => if r = 0 then 1024 else energy * 1024 / r
    | none => 1024
  max 512 (min q 4096)

/-- The charge of a closed journal (R11). -/
def journalCharge (base q : Nat) : Nat := (base * q + 512) / 1024

/-- Charge the tool of a slot. -/
def State.chargeTool (s : State) (slot : Fin 8) (c : Nat) : State :=
  match s.tools.get slot with
  | some t => s.setTool slot (some (t.charge s.figures.overrunAllowance c))
  | none => s

/-- The TOOL NOTICE that a charge of the tool once in this slot calls for, if any (R14, R15). -/
def State.noticeCharge (s : State) (slot : Fin 8) (before : Option Tool) : State :=
  match before, s.tools.get slot with
  | some b, some t => if Tool.noticed b t then s.sendToolNotice slot else s
  | _, _ => s

/-- Report the change of a tool's state since it stood as `before` (R13, R15, R16). -/
def State.reportCharge (s : State) (slot : Fin 8) (before : Option Tool) : State :=
  match before with
  | some b => s.reportState slot b.state
  | none => s

/-! ## The tool check (R9) -/

/-- The answer of the tool check for a mounted tool; none when it is fit (Table 1-6). -/
def Tool.check (t : Tool) (allowance : Nat) : Option Reason :=
  if t.state = .broken then some .toolBroken
  else if t.state = .spent ∧ t.life = -(allowance : Int) then some .toolSpent
  else none

/-- The tool check of a slot that must hold a tool at a given place (R9). -/
def State.toolCheck (s : State) (slot : Option (Fin 8)) : Option Reason :=
  match slot.bind fun k => s.tools.get k with
  | some t => t.check s.figures.overrunAllowance
  | none => some .unknownTool

/-! ## Breakage and last contacts (R16, R17, R70) -/

/-- Set a tool BROKEN, from whichever other state it stood in (R16). -/
def State.setBroken (s : State) (slot : Fin 8) : State :=
  match s.tools.get slot with
  | some t => s.setTool slot (some { t with state := .broken })
  | none => s

/-- A LOSS, CRASH or VOID verdict against a tool: BROKEN, TOOL NOTICE, report, status changed (R16). -/
def State.breakTool (s : State) (slot : Fin 8) : State :=
  match s.tools.get slot with
  | some t =>
    if t.state = .broken then s
    else ((s.setBroken slot).sendToolNotice slot).reportState slot t.state
  | none => s

/-- Store the last contact of a class for the wheel at WHEELHEADn (R17). -/
def State.storeContact (s : State) (n : Wheelhead) (cls : JournalClass) (x : Pos) : State :=
  match s.wheelAt n with
  | some slot => match s.tools.get slot with
    | some t => s.setTool slot (some { t with contacts := t.contacts.set cls (some x) })
    | none => s
  | none => s

/-- Make the last contacts of the wheel at WHEELHEADn absent (R17, R23). -/
def State.clearContacts (s : State) (n : Wheelhead) : State :=
  match s.wheelAt n with
  | some slot => match s.tools.get slot with
    | some t => s.setTool slot (some { t with contacts := .absent })
    | none => s
  | none => s

/-- Last contacts moved toward the part by a depth (R70). -/
def Contacts.move (c : Contacts) (dir : Int) (d : Nat) : Contacts :=
  let shift (x : Pos) : Pos := x + BitVec.ofInt 32 ((d : Int) * dir)
  { main := c.main.map shift, pin := c.pin.map shift, endFeature := c.endFeature.map shift }

/-! ## The dress-due run (R73, R74) -/

/-- Whether a roll cannot give a sound dress: none, SPENT or BROKEN (R74). -/
def rollUnfit (roll : Option (Fin 8 × ToolState)) : Bool :=
  match roll with
  | none => true
  | some r => r.2 == .spent || r.2 == .broken

/-- The roll at DRESSERn with its state. -/
def State.rollState (s : State) (n : Wheelhead) : Option (Fin 8 × ToolState) :=
  (s.rollAt n).bind fun k => (s.tools.get k).map fun r => (k, r.state)

/-- A dress falls due: DRESS DUE, and the wheel becomes dress blocked when its roll is unfit (R74). -/
def State.raiseDressDue (s : State) (n : Wheelhead) (slot : Fin 8) (t : Tool) (q : Nat) : State :=
  let roll := s.rollState n
  let s1 := s.send (.dressDue
    { wheelSlot := slot, id := t.id, wheelhead := n, run := t.dressRun, q := q, roll := roll
      blocked := t.dressBlocked || rollUnfit roll })
  if rollUnfit roll && !t.dressBlocked then
    ((s1.setTool slot (some { t with dressBlocked := true })).sendToolNotice slot).takeTrigger slot t.group t.seat
      .dressBlocked
  else s1

/-- The dress-due run after a journal of energy ratio q (R73). -/
def dressRunAfter (ratio count run q : Nat) : Nat := if q < ratio then 0 else min (run + 1) count

/-- Update the dress-due run of a wheel after a charged journal of wheelhead n (R73). -/
def State.updateDressRun (s : State) (n : Wheelhead) (slot : Fin 8) (q : Nat) : State :=
  match s.tools.get slot with
  | some t =>
    if t.state = .broken then s
    else
      let run := dressRunAfter s.figures.dressRatio s.figures.dressCount t.dressRun q
      let t' := { t with dressRun := run }
      let s1 := s.setTool slot (some t')
      if t.dressRun < s.figures.dressCount ∧ run = s.figures.dressCount then s1.raiseDressDue n slot t' q else s1
  | none => s

/-! ## MOUNT (R4 to R6) -/

/-- The checks of a MOUNT (Table 1-4). -/
def State.checkMount (s : State) (slot kind position group : Byte) : Except Reason (Fin 8 × ToolKind × Seat) :=
  if s.station = .unconfigured then .error .wrongState
  else match slotOf slot with
    | none => .error .badValue
    | some k =>
      if 31 < group.toNat then .error .badValue
      else match kindOf kind, seatOf position with
        | some knd, some seat =>
          if !seatSuits knd seat then .error .badValue
          else if (s.tools.get k).isSome then .error .busy
          else if seat ≠ .rack ∧ (s.findTool fun t => t.seat == seat).isSome then .error .busy
          else .ok (k, knd, seat)
        | _, _ => .error .badValue

/-- The full life a MOUNT takes: 0 as 1, and no more than 16,777,215 (R4, section 11.8). -/
def takenFull (fullLife : BitVec 32) : Nat := min (max fullLife.toNat 1) 16777215

/-- The record of a newly mounted tool (R5, R6). -/
def mountedTool (warnPct : Nat) (kind : ToolKind) (seat : Seat) (toolId : BitVec 32) (group : Byte)
    (fullLife consumedLife : BitVec 32) : Tool :=
  let full := takenFull fullLife
  let life : Int := (full : Int) - (min consumedLife.toNat full : Nat)
  let warn := warnLevel full warnPct
  { state := mountedState life warn, kind := kind, seat := seat, id := toolId
    group := if group = 0 then none else some group.toNat, full := full, life := life, warn := warn
    contacts := .absent, dressRun := 0, dressBlocked := false, overrun := false }

/-- An accepted MOUNT: the record, its TOOL NOTICE, the report and the status changed (R5, R6). -/
def State.mountTool (s : State) (slot : Fin 8) (t : Tool) : State :=
  (((s.setTool slot (some t)).sendToolNotice slot).reportMount slot t).markStatus

/-- The handling of a MOUNT (R4). -/
def State.handleMount (slot kind position : Byte) (toolId : BitVec 32) (group : Byte)
    (fullLife consumedLife : BitVec 32) (s : State) : State :=
  s.answer 0x04 (s.checkMount slot kind position group) fun x =>
    (s.mountTool x.1 (mountedTool s.figures.warnPct x.2.1 x.2.2 toolId group fullLife consumedLife)).accept 0x04

/-! ## DISMOUNT (R7, R8) -/

/-- The wheelhead whose channel serves a position, none at the rack (R2). -/
def Seat.wheelhead? : Seat → Option Wheelhead
  | .wheelhead n => some n
  | .dresser n => some n
  | .rack => none

/-- Whether the channel that serves a position is in a state other than IDLE or STOPPED (R7, check 3). -/
def State.seatBusy (s : State) (seat : Seat) : Bool :=
  match seat.wheelhead? with
  | some n => (s.channels.get n).state != .idle && (s.channels.get n).state != .stopped
  | none => false

/-- The checks of a DISMOUNT (Table 1-5). -/
def State.checkDismount (s : State) (slot : Byte) : Except Reason (Fin 8 × Tool) :=
  if s.station = .unconfigured then .error .wrongState
  else match slotOf slot with
    | none => .error .badValue
    | some k => match s.tools.get k with
      | none => .error .unknownTool
      | some t =>
        if s.seatBusy t.seat then .error .busy
        else if (s.sister.reservations.get k).isSome then .error .busy
        else .ok (k, t)

/-- Step 2 of R8: a teach on the wheelhead of a dismounted wheel is cancelled (R105). -/
def State.cancelTeach (s : State) (t : Tool) : State :=
  match t.seat with
  | .wheelhead n => s.setTeach n none
  | _ => s

/-- An accepted DISMOUNT (R8). -/
def State.dismountTool (s : State) (slot : Fin 8) (t : Tool) : State :=
  ((((s.takeTrigger slot t.group t.seat .dismount).cancelTeach t).setTool slot none).sendToolNotice slot).markStatus

/-- The handling of a DISMOUNT (R7). -/
def State.handleDismount (slot : Byte) (s : State) : State :=
  s.answer 0x05 (s.checkDismount slot) fun x => (s.dismountTool x.1 x.2).accept 0x05

/-! ## QUERY TOOL (R20) -/

/-- What a QUERY TOOL reply adds for a mounted tool (R20); the dress-due run is for wheels only (Table 1-1). -/
def Tool.detail (t : Tool) : ToolDetail :=
  { full := t.full, warn := t.warn, contacts := t.contacts
    dressRun := match t.kind with
      | .wheel => some t.dressRun
      | .dresser => none }

/-- The handling of a QUERY TOOL (R20). -/
def State.handleQueryTool (slot : Byte) (s : State) : State :=
  match slotOf slot with
  | none => s.refuse 0x10 .badValue
  | some k => s.accept 0x10 (.tool (s.noticeOf k) ((s.tools.get k).map Tool.detail))

end Sys2Proof.Machine
end

