-- ==== Sys2Proof/Machine/Teach.lean ====
section
/-! DEFINITION. The teach buffers (chapter 6): the TEACH request, teach grinds, their counting and the completion of a
teach. -/

namespace Sys2Proof.Machine

/-! ## The TEACH request (R96) -/

/-- The M a TEACH takes (R96). -/
def takenM (m : Byte) : Nat := max 4 (min m.toNat 16)

/-- The step a TEACH takes (R96). -/
def takenStep (step : BitVec 16) : Nat := max 1 (min step.toNat 4095)

/-- A buffer entering WAITING (R95). -/
def TeachBuffer.start (key m step : Nat) : TeachBuffer :=
  { key := key, m := m, step := step, counted := 0, table := Vector.replicate 64 none, energySum := 0
    grindTable := Vector.replicate 64 none, grindOpen := false }

/-- The checks of a TEACH (Table 6-3). -/
def State.checkTeach (s : State) (variant journal wheelhead : Byte) : Except Reason (Wheelhead × Nat) :=
  if s.station = .unconfigured then .error .wrongState
  else match opOf variant journal, wheelheadOf wheelhead with
    | some op, some n =>
      if (s.channels.get n).teach.isSome then .error .busy
      else if 4 ≤ s.claims ∧ s.store.isUnsaved (keyOf n op) = false then .error .storeFull
      else .ok (n, keyOf n op)
    | _, _ => .error .badValue

/-- The handling of a TEACH (R96). -/
def State.handleTeach (variant journal wheelhead m : Byte) (step : BitVec 16) (s : State) : State :=
  s.answer 0x0F (s.checkTeach variant journal wheelhead) fun x =>
    (s.setTeach x.1 (some (TeachBuffer.start x.2 (takenM m) (takenStep step)))).accept 0x0F
      (.teach (takenM m) (takenStep step))

/-! ## Teach grinds (R98, R99) -/

/-- A teach grind begins: the grind open mark is set and the grind table is absent at every point (R98). -/
def TeachBuffer.openGrind (b : TeachBuffer) : TeachBuffer :=
  { b with grindTable := Vector.replicate 64 none, grindOpen := true }

/-- A power folded into a point of the grind table (R99). -/
def foldPoint (point : Option Bounds) (p : Nat) : Option Bounds :=
  match point with
  | none => some ⟨p, p⟩
  | some b => some ⟨min b.lower p, max b.upper p⟩

/-- The point index of a travel (R46). -/
def pointIndex (travel step : Nat) : Nat := min (travel / step) 63

/-- The buffer folds the pair (k, p) of a compared sample into its grind table (R99). -/
def TeachBuffer.fold (b : TeachBuffer) (travel p : Nat) : TeachBuffer :=
  if b.grindOpen then
    let k := pointIndex travel b.step
    { b with grindTable := b.grindTable.setIfInBounds k (foldPoint ((b.grindTable[k]?).join) p) }
  else b

/-! ## Counting and completion (R100, R101) -/

/-- A grind point merged into a teach point (R100). -/
def mergePoint (grind taught : Option Bounds) : Option Bounds :=
  match grind, taught with
  | none, t => t
  | some g, none => some g
  | some g, some t => some ⟨min g.lower t.lower, max g.upper t.upper⟩

/-- Whether the buffer counts a grind: the verdict NONE, and contact declared (R100). -/
def counts (verdict : Verdict) (contacted : Bool) : Bool := verdict == .none && contacted

/-- The buffer at the close of a teach grind (R100). -/
def TeachBuffer.closeGrind (b : TeachBuffer) (counted : Bool) (energy : Nat) : TeachBuffer :=
  let c := { b with grindTable := Vector.replicate 64 none, grindOpen := false }
  if counted then
    { c with
      table := Vector.zipWith mergePoint b.grindTable b.table
      energySum := b.energySum + energy
      counted := b.counted + 1 }
  else c

/-- A point of the envelope, from a point of the teach table (R101). -/
def envelopePoint (marginLow marginHigh : Nat) (point : Option Bounds) : Bounds :=
  match point with
  | some b => ⟨b.lower - marginLow, min 4095 (b.upper + marginHigh)⟩
  | none => ⟨0, 4095⟩

/-- The envelope a completed teach forms (R101). -/
def TeachBuffer.envelope (b : TeachBuffer) (c : Figures) : Envelope :=
  { m := b.m, step := b.step, eRef := b.energySum / b.m
    points := b.table.map (envelopePoint c.marginLow c.marginHigh) }

/-- The completion of a teach, when counted has reached M: the envelope goes to the store and the buffer to FREE
(R101). -/
def State.completeTeach (s : State) (n : Wheelhead) : State :=
  match (s.channels.get n).teach with
  | some b =>
    if b.m ≤ b.counted then (s.setTeach n none).placeEnvelope b.key (b.envelope s.figures) else s
  | none => s

end Sys2Proof.Machine
end

