-- ==== Sys2Proof/Machine/Channel.lean ====
section
/-! DEFINITION. The check channels in a journal (chapter 3, with sections 2.4 and 6.3): arming, the steps of a sample, the
verdicts, the hold, the close and the hold release. -/

namespace Sys2Proof.Machine

/-- A sample delivered to a channel (R31). -/
structure Sample where
  p : Nat
  a : Nat
  position : Pos
  advanced : Bool
  held : Bool
  lost : Bool
deriving DecidableEq, Repr

/-! ## Arming (R40, R41) -/

/-- The working state at arming (R40). -/
def Journal.start (op : Op) (cls : JournalClass) (slot : Fin 8) (key : Nat) (source : Option BandSource)
    (deadline : Nat) : Journal :=
  { op := op, cls := cls, slot := slot, key := key, source := source, window := [], samplesArmed := 0
    idlePower := none, contactRun := 0, candidate := none, runPowers := [], crashRun := 0, stillRun := 0, lowRun := 0
    highRun := 0, heavy := false, verdict := none, energy := 0, peakP := 0, peakA := 0, samples := 0, heldCount := 0
    contacted := false, deadline := deadline }

/-- The moment an overlong timer started now expires (R57, R71). -/
def State.overlongAt (s : State) : Nat := s.clock + halfMs (1000 * s.figures.maxGrind)

/-- The teach buffer of channel n, when it waits on a key (R41, R95). -/
def Channel.teaches (c : Channel) (key : Nat) : Option TeachBuffer := c.teach.filter fun b => b.key == key

/-- Channel n arms for an operation-list entry (R40, R41, R82). -/
def State.arm (s : State) (n : Wheelhead) (e : OpEntry) : State :=
  let key := keyOf n e.op
  let s1 := s.setCounter n { s.counters.get n with journalEnd := none }
  match (s.channels.get n).teaches key with
  | some b =>
    s1.setChannel n
      { activity := .journal .armed (Journal.start e.op e.cls e.slot key (some .teach) s.overlongAt)
        teach := some b.openGrind }
  | none =>
    let found := s.store.lookup key
    ((s1.setStore found.2).setActivity n
      (.journal .armed (Journal.start e.op e.cls e.slot key (found.1.map .envelope) s.overlongAt))).arbitrate

/-! ## The steps of a sample (R44) -/

/-- Step 1: counts and peaks (R44). -/
def Journal.count (j : Journal) (x : Sample) : Journal :=
  { j with
    samples := min (j.samples + 1) 65535
    heldCount := if x.held then min (j.heldCount + 1) 65535 else j.heldCount
    peakP := max j.peakP x.p
    peakA := max j.peakA x.a }

/-- The crash run after a sample (R50). -/
def Journal.crash (j : Journal) (aeCrash : Nat) (x : Sample) : Journal :=
  { j with crashRun := if aeCrash ≤ x.a then j.crashRun + 1 else 0 }

/-- A sum of energy, saturating at 32 bits (R55). -/
def addEnergy (energy p idle : Nat) : Nat := min (energy + (p - idle)) 4294967295

/-- Step 6: the sample joins E once the journal has reached contact (R44, R55). -/
def Journal.sum (j : Journal) (p : Nat) : Journal :=
  if j.contacted then { j with energy := addEnergy j.energy p (j.idlePower.getD 0) } else j

/-- The journal in HELD with its verdict; a contact run not yet declared is discarded (R36, R53). -/
def Journal.hold (j : Journal) (v : HoldVerdict) : Journal :=
  if j.contacted then { j with verdict := some v }
  else { j with verdict := some v, contactRun := 0, candidate := none, runPowers := [] }

/-- Whether a hold-class verdict breaks the tool: all but BLIND (R53). -/
def HoldVerdict.breaks : HoldVerdict → Bool
  | .blind => false
  | .loss => true
  | .crash => true
  | .void => true

/-- A hold-class verdict: the channel enters HELD and the life unit hears of a break (R53). -/
def State.holdChannel (s : State) (n : Wheelhead) (j : Journal) (v : HoldVerdict) : State :=
  let s1 := s.setActivity n (.journal .held j)
  if v.breaks then s1.breakTool j.slot else s1

/-- Whether a sample is a contact sample (R35). -/
def Journal.contactSample (j : Journal) (margin p : Nat) : Bool :=
  match j.idlePower with
  | some idle => decide (idle + margin ≤ p)
  | none => false

/-- The floor of the mean of some values (R34). -/
def floorMean (values : List Nat) : Nat := values.sum / values.length

/-- The baseline takes a sample's power (R34). -/
def Journal.baseline (j : Journal) (p : Nat) : Journal :=
  let window := (j.window ++ [p]).drop (j.window.length + 1 - 64)
  { j with window := window, samplesArmed := j.samplesArmed + 1, idlePower := some (floorMean window) }

/-- The contact run after a sample that does not declare contact (R35). -/
def Journal.runContact (j : Journal) (x : Sample) (contact : Bool) : Journal :=
  if contact then
    { j with
      contactRun := j.contactRun + 1
      candidate := if j.contactRun = 0 then some x.position else j.candidate
      runPowers := j.runPowers ++ [x.p] }
  else { j with contactRun := 0, candidate := none, runPowers := [] }

/-- The band source settled at contact (R42). -/
def Store.settleSource (x : Store) (j : Journal) : BandSource :=
  match j.source with
  | some source => source
  | none => match x.usable j.key with
    | some slot => .envelope slot
    | none => .coarse

/-- The journal once contact is declared: the run's four powers begin the energy (R35). -/
def Journal.declare (j : Journal) (source : BandSource) (p : Nat) : Journal :=
  { j with
    source := some source, contactRun := 4, candidate := none, runPowers := [], stillRun := 0, contacted := true
    energy := (j.runPowers ++ [p]).foldl (fun e v => addEnergy e v (j.idlePower.getD 0)) 0 }

/-- Contact is declared: the captures, the last contact, the band source and GRINDING (R27, R35, R42). -/
def State.declareContact (s : State) (n : Wheelhead) (j : Journal) (candidate : Pos) (p : Nat) : State :=
  let c := s.counters.get n
  ((s.setCounter n { c with contactPrior := c.contact, contact := some candidate }).storeContact n j.cls candidate)
    |>.setActivity n (.journal .grinding (j.declare (s.store.settleSource j) p))

/-- Whether the VOID test finds the wheel past its last contact (R51). -/
def State.voidFound (s : State) (n : Wheelhead) (j : Journal) (x : Sample) : Bool :=
  match (s.tools.get j.slot).bind fun t => t.contacts.get j.cls with
  | some last => decide ((s.figures.voidMargin : Int) < s.advance n last x.position)
  | none => false

/-- Step 4: a sample in ARMED (R34, R35, R51). -/
def State.sampleArmed (s : State) (n : Wheelhead) (j : Journal) (x : Sample) : State :=
  let contact := j.contactSample s.figures.contactMargin x.p
  if contact ∧ j.contactRun = 3 then s.declareContact n j (j.candidate.getD x.position) x.p
  else
    let j1 := (j.runContact x contact).baseline x.p
    if s.voidFound n j x then s.holdChannel n (j1.hold .void) .void
    else s.setActivity n (.journal .armed j1)

/-- The still run and the phase after a sample, and whether the sample is compared with the band (R45). -/
def stillStep (phase : JournalPhase) (still : Nat) (advanced : Bool) : JournalPhase × Nat × Bool :=
  if advanced then (.grinding, 0, true)
  else
    let run := min (still + 1) 16
    if phase = .grinding ∧ run < 16 then (.grinding, run, true) else (.sparkout, run, false)

/-- The envelope a channel compares against: its slot's, while that slot is usable (R42, R43). -/
def State.bandEnvelope (s : State) (j : Journal) : Option Envelope :=
  match j.source with
  | some (.envelope slot) => (s.store.slots.get slot).envelope
  | _ => none

/-- The point of an envelope at a travel; a step of 0 is taken as 1 (R43, R46). -/
def Envelope.at (e : Envelope) (travel : Nat) : Bounds :=
  e.points[pointIndex travel (max e.step 1)]'(by unfold pointIndex; omega)

/-- A run one longer, up to 255 (R47). -/
def runUp (run : Nat) : Nat := min (run + 1) 255

/-- The runs after a comparison, with the envelope (R47) or on the coarse band (R48). -/
def Journal.compare (j : Journal) (margin : Nat) (env : Option Envelope) (travel p : Nat) : Journal :=
  match env with
  | some e =>
    if p < (e.at travel).lower then { j with lowRun := runUp j.lowRun, highRun := 0 }
    else if (e.at travel).upper < p then { j with lowRun := 0, highRun := runUp j.highRun }
    else { j with lowRun := 0, highRun := 0 }
  | none =>
    if p < j.idlePower.getD 0 + margin / 2 then { j with lowRun := runUp j.lowRun } else { j with lowRun := 0 }

/-- The persistence limit for LOSS (R48, R49). -/
def lossLimit (nLow : Nat) (env : Option Envelope) : Nat :=
  match env with
  | some _ => nLow
  | none => min (2 * nLow) 128

/-- The HEAVY mark after a comparison (R49). -/
def Journal.markHeavy (j : Journal) (nHigh : Nat) : Journal :=
  if nHigh ≤ j.highRun then { j with heavy := true } else j

/-- The travel of a sample: its advance past the journal's contact, a negative one taken as 0 (R46). -/
def State.travel (s : State) (n : Wheelhead) (position : Pos) : Nat :=
  match (s.counters.get n).contact with
  | some contact => (s.advance n contact position).toNat
  | none => 0

/-- A compared sample of a teach grind is folded into the grind table (R99). -/
def State.foldTeach (s : State) (n : Wheelhead) (j : Journal) (travel p : Nat) : State :=
  match j.source, (s.channels.get n).teach with
  | some .teach, some b => s.setTeach n (some (b.fold travel p))
  | _, _ => s

/-- Steps 5 and 6: a sample in GRINDING or SPARKOUT (R45 to R49, R55). -/
def State.sampleCutting (s : State) (n : Wheelhead) (phase : JournalPhase) (j : Journal) (x : Sample) : State :=
  match stillStep phase j.stillRun x.advanced with
  | (phase', still, false) => s.setActivity n (.journal phase' ({ j with stillRun := still }.sum x.p))
  | (phase', still, true) =>
    let env := s.bandEnvelope j
    let travel := s.travel n x.position
    let j1 := { j with stillRun := still }.compare s.figures.contactMargin env travel x.p
    let s1 := s.foldTeach n j travel x.p
    if lossLimit s.figures.nLow env ≤ j1.lowRun then s1.holdChannel n ((j1.hold .loss).sum x.p) .loss
    else s1.setActivity n (.journal phase' ((j1.markHeavy s.figures.nHigh).sum x.p))

/-- A sample in a journal state (R44). -/
def State.sampleJournal (s : State) (n : Wheelhead) (phase : JournalPhase) (j : Journal) (x : Sample) : State :=
  let j1 := j.count x
  match phase with
  | .held => s.setActivity n (.journal .held (j1.sum x.p))
  | _ =>
    if x.lost then s.holdChannel n ((j1.hold .blind).sum x.p) .blind
    else
      let j2 := j1.crash s.figures.aeCrash x
      if 2 ≤ j2.crashRun then s.holdChannel n ((j2.hold .crash).sum x.p) .crash
      else match phase with
        | .armed => s.sampleArmed n j2 x
        | _ => s.sampleCutting n phase j2 x

/-! ## Closing a journal (R58, R59) -/

/-- The verdict settled at close (R58, step 2). -/
def Journal.settle (j : Journal) (overlong : Bool) : Verdict :=
  match j.verdict with
  | some v => .hold v
  | none => if overlong then .overlong else if j.heavy then .heavy else .none

/-- The band source settled at close, as the record names it (R58, step 3). -/
def bandName (source : Option BandSource) : BandName :=
  match source with
  | some (.envelope _) => .envelope
  | some .teach => .teach
  | some .coarse => .coarse
  | none => .coarse

/-- The close of the teach grind of channel n (R58, step 5; R100). -/
def State.closeTeach (s : State) (n : Wheelhead) (j : Journal) (counted : Bool) : State :=
  match j.source, (s.channels.get n).teach with
  | some .teach, some b => s.setTeach n (some (b.closeGrind counted j.energy))
  | _, _ => s

/-- Whether the teach buffer of channel n counts the journal (R100). -/
def State.teachCounts (s : State) (n : Wheelhead) (j : Journal) (verdict : Verdict) : Bool :=
  match j.source, (s.channels.get n).teach with
  | some .teach, some _ => counts verdict j.contacted
  | _, _ => false

/-- The end travel of a grind record (Table 3-4). -/
def State.endTravel (s : State) (n : Wheelhead) (j : Journal) : Nat :=
  if j.contacted then s.travel n (s.counters.get n).count else 0

/-- The grind record of a closing journal (R59). -/
def State.grindRecord (s : State) (n : Wheelhead) (j : Journal) (overlong : Bool) : GrindRecord :=
  let verdict := j.settle overlong
  let q := energyRatio j.energy ((s.bandEnvelope j).map Envelope.eRef)
  { op := j.op, slot := j.slot, verdict := verdict, source := bandName j.source, energy := j.energy, q := q
    charge := journalCharge (s.figures.baseCost j.cls) q
    contact := if j.contacted then (s.counters.get n).contact else none
    endTravel := s.endTravel n j, peakP := j.peakP, peakA := j.peakA, samples := j.samples, heldCount := j.heldCount
    overrun := s.toolIf Tool.overruns j.slot, teachCounted := s.teachCounts n j verdict }

/-- Steps 3 to 5 of R14, after the grind record: the TOOL NOTICE, the dress-due run and the report. -/
def State.afterCharge (s : State) (n : Wheelhead) (slot : Fin 8) (before : Option Tool) (q : Nat) : State :=
  ((s.noticeCharge slot before).updateDressRun n slot q).reportCharge slot before

/-- The open journal of channel n closes; `after` is the state the channel enters (R58). -/
def State.closeJournal (s : State) (n : Wheelhead) (j : Journal) (overlong : Bool) (after : Activity) : State :=
  let r := s.grindRecord n j overlong
  let c := s.counters.get n
  let s1 := (s.setCounter n { c with journalEnd := some c.count }).chargeTool j.slot r.charge
  let s2 := (s1.closeTeach n j r.teachCounted).send (.grindRecord r)
  let s3 := if r.teachCounted then s2.completeTeach n else s2
  (s3.setActivity n after).afterCharge n j.slot (s.tools.get j.slot) r.q

/-- The state a channel enters when its journal closes (R56, R57). -/
def afterClose : JournalPhase → Activity
  | .held => .stopped
  | .armed => .idle
  | .grinding => .idle
  | .sparkout => .idle

/-! ## The commands -/

/-- The handling of a JOURNAL END (R56). -/
def State.handleJournalEnd (wheelhead : Byte) (s : State) : State :=
  if s.station ≠ .running then s.refuse 0x0B .wrongState
  else match wheelheadOf wheelhead with
    | none => s.refuse 0x0B .badValue
    | some n => match (s.channels.get n).activity with
      | .journal phase j => (s.closeJournal n j false (afterClose phase)).accept 0x0B
      | _ => s.refuse 0x0B .wrongState

/-- OVERLONG_EXPIRY: the overlong timer of the open journal of channel n expires (R57). -/
def execOverlongExpiry (n : Wheelhead) (s : State) : Host.Outcome State Fault Refusal :=
  match (s.channels.get n).activity with
  | .journal phase j => .next (s.finish ((s.reach j.deadline).closeJournal n j true (afterClose phase)))
  | _ => .next s

/-- The handling of a HOLD RELEASE (R61). -/
def State.handleHoldRelease (wheelhead : Byte) (s : State) : State :=
  if s.station ≠ .running then s.refuse 0x0E .wrongState
  else match wheelheadOf wheelhead with
    | none => s.refuse 0x0E .badValue
    | some n => match (s.channels.get n).state with
      | .stopped => (s.setActivity n .idle).accept 0x0E
      | .idle => s.accept 0x0E
      | .held => s.refuse 0x0E .wrongState
      | _ => s.refuse 0x0E .busy

end Sys2Proof.Machine
end

