-- ==== Sys2Proof/Machine/Dress.lean ====
section
/-! DEFINITION. The dress cycle (chapter 4): opening a dress, its samples, its close at DRESS END or at its overlong timer,
and the position fault in DRESSING. -/

namespace Sys2Proof.Machine

/-! ## Opening a dress (R63, R64) -/

/-- The checks of a DRESS BEGIN (Table 4-2). -/
def State.checkDressBegin (s : State) (wheelhead : Byte) : Except Reason (Wheelhead × Fin 8 × Fin 8) :=
  if s.station ≠ .running then .error .wrongState
  else match wheelheadOf wheelhead with
    | none => .error .badValue
    | some n => match s.toolCheck (s.wheelAt n), s.toolCheck (s.rollAt n) with
      | some reason, _ => .error reason
      | none, some reason => .error reason
      | none, none => match s.wheelAt n, s.rollAt n with
        | some wheel, some roll =>
          if (s.channels.get n).state ≠ .idle then .error .busy else .ok (n, wheel, roll)
        | _, _ => .error .unknownTool

/-- The dress state at DRESS BEGIN (R64). -/
def Dress.start (wheel roll : Fin 8) (deadline : Nat) : Dress :=
  { wheelSlot := wheel, rollSlot := roll, run := 0, runStart := none, contactSeen := false, sensorLoss := false
    faultMark := false, peakP := 0, peakA := 0, samples := 0, heldCount := 0, deadline := deadline }

/-- Open the dress of wheelhead n (R64). -/
def State.openDress (s : State) (n : Wheelhead) (wheel roll : Fin 8) : State :=
  (s.setCounter n { s.counters.get n with dressContact := none, dressEnd := none }).setActivity n
    (.dressing (Dress.start wheel roll s.overlongAt))

/-- The handling of a DRESS BEGIN (R63). -/
def State.handleDressBegin (wheelhead : Byte) (s : State) : State :=
  s.answer 0x0C (s.checkDressBegin wheelhead) fun x => (s.openDress x.1 x.2.1 x.2.2).accept 0x0C

/-! ## During the dress (R65, R66) -/

/-- Step 1 of a sample in DRESSING: counts and peaks (R65). -/
def Dress.count (d : Dress) (x : Sample) : Dress :=
  { d with
    samples := min (d.samples + 1) 65535
    heldCount := if x.held then min (d.heldCount + 1) 65535 else d.heldCount
    peakP := max d.peakP x.p
    peakA := max d.peakA x.a }

/-- A sample in DRESSING (R65). -/
def State.sampleDress (s : State) (n : Wheelhead) (d : Dress) (x : Sample) : State :=
  let d1 := d.count x
  if x.lost then s.setActivity n (.dressing { d1 with sensorLoss := true, run := 0, runStart := none })
  else if x.a < s.figures.aeDress then s.setActivity n (.dressing { d1 with run := 0, runStart := none })
  else if d1.run = 0 then s.setActivity n (.dressing { d1 with run := 1, runStart := some x.position })
  else
    let c := s.counters.get n
    (s.setCounter n { c with dressContact := c.dressContact.or d1.runStart }).setActivity n
      (.dressing { d1 with run := 0, runStart := none, contactSeen := true })

/-- A position fault of counter n reaches channel n (R23, R52, R66). -/
def State.faultChannel (s : State) (n : Wheelhead) : State :=
  match (s.channels.get n).activity with
  | .journal .held _ => s
  | .journal _ j => s.holdChannel n (j.hold .blind) .blind
  | .dressing d =>
    (s.setCounter n { s.counters.get n with dressContact := none }).setActivity n
      (.dressing { d with faultMark := true, run := 0, runStart := none })
  | .idle => s
  | .stopped => s

/-! ## Closing a dress (R67 to R72) -/

/-- The reported depth as taken (R67). -/
def takenDepth (depth : BitVec 16) : Nat := min depth.toNat 500

/-- The reconciled depth and the DEPTH_MISMATCH flag; no reported depth stands for an OVERLONG close (R68, R71). -/
def reconcile (tol : Nat) (reported measured : Option Nat) : Nat × Bool :=
  match reported, measured with
  | some r, none => (min r 500, false)
  | some r, some m => if max (r - m) (m - r) ≤ tol then (min r 500, false) else (min (max r m) 500, true)
  | none, some m => (min m 500, false)
  | none, none => (0, false)

/-- The measured depth at the close of a dress of wheelhead n (R68). -/
def State.measuredDepth (s : State) (n : Wheelhead) : Option Nat :=
  let c := s.counters.get n
  c.dressContact.map fun x => (distance x c.count).natAbs

/-- The dresser VOID: no contact, no sensor loss and a reported depth above the tolerance (R69). -/
def Dress.isVoid (d : Dress) (tol : Nat) (reported : Option Nat) : Bool :=
  match reported with
  | some r => !d.contactSeen && !d.sensorLoss && decide (tol < r)
  | none => false

/-- The outcome of a dress (Table 4-4). -/
def Dress.outcome (d : Dress) (tol : Nat) (reported : Option Nat) : DressOutcome :=
  if reported.isNone then .overlong else if d.isVoid tol reported then .void else .none

/-- The dress record of a closing dress (R72). -/
def State.dressRecord (s : State) (n : Wheelhead) (d : Dress) (reported : Option Nat) : DressRecord :=
  let c := s.figures
  let measured := s.measuredDepth n
  let depth := reconcile c.dressTol reported measured
  { wheelhead := n, wheelSlot := d.wheelSlot, rollSlot := d.rollSlot, outcome := d.outcome c.dressTol reported
    reported := reported, measured := measured, depth := depth.1, wheelCharge := depth.1 * c.kWheel
    rollCharge := c.kRoll, contact := (s.counters.get n).dressContact, peakP := d.peakP, peakA := d.peakA
    samples := d.samples, heldCount := d.heldCount, depthMismatch := depth.2, sensorLost := d.sensorLoss
    positionFault := d.faultMark, overrunWheel := s.toolIf Tool.overruns d.wheelSlot
    overrunRoll := s.toolIf Tool.overruns d.rollSlot }

/-- Step 5 of R67, with step 6 when `cleared`: the wheel's last contacts move, and its dress-due run and dress-blocked
flag are cleared (R70, R73, R74). -/
def State.dressWheel (s : State) (n : Wheelhead) (slot : Fin 8) (depth : Nat) (cleared : Bool) : State :=
  match s.tools.get slot with
  | some t =>
    let moved := { t with contacts := t.contacts.move (s.figures.dir n) depth }
    s.setTool slot (some (if cleared then { moved with dressRun := 0, dressBlocked := false } else moved))
  | none => s

/-- The dress-blocked flag of a tool that stood as `before` has been cleared. -/
def State.unblocked (s : State) (slot : Fin 8) (before : Option Tool) : Bool :=
  match before with
  | some t => t.dressBlocked && !s.toolIf Tool.dressBlocked slot
  | none => false

/-- The TOOL NOTICE of the wheel after a dress, if any (R67, step 8; R74). -/
def State.noticeDressed (s : State) (slot : Fin 8) (before : Option Tool) : State :=
  if s.unblocked slot before then s.sendToolNotice slot else s.noticeCharge slot before

/-- The reports of a closed dress to the sister unit (R67, step 8; R168). -/
def State.reportDress (s : State) (d : Dress) (wheel roll : Option Tool) : State :=
  let cleared := s.unblocked d.wheelSlot wheel
  let s1 := (s.reportCharge d.wheelSlot wheel).reportCharge d.rollSlot roll
  (if cleared then s1.reportUnblocked d.wheelSlot else s1).markStatus

/-- The open dress of channel n closes (R67); no reported depth stands for an OVERLONG close (R71). -/
def State.closeDress (s : State) (n : Wheelhead) (d : Dress) (reported : Option Nat) : State :=
  let r := s.dressRecord n d reported
  let c := s.counters.get n
  let wheel := s.tools.get d.wheelSlot
  let roll := s.tools.get d.rollSlot
  let s1 := ((s.setCounter n { c with dressEnd := some c.count }).chargeTool d.wheelSlot r.wheelCharge).chargeTool
    d.rollSlot r.rollCharge
  let s2 := if r.outcome = .void then s1.setBroken d.rollSlot else s1
  let s3 := (s2.dressWheel n d.wheelSlot r.depth reported.isSome).send (.dressRecord r)
  let s4 := (s3.noticeDressed d.wheelSlot wheel).noticeCharge d.rollSlot roll
  (s4.reportDress d wheel roll).setActivity n (if r.outcome = .void then .stopped else .idle)

/-- The handling of a DRESS END (R67). -/
def State.handleDressEnd (wheelhead : Byte) (depth : BitVec 16) (s : State) : State :=
  if s.station ≠ .running then s.refuse 0x0D .wrongState
  else match wheelheadOf wheelhead with
    | none => s.refuse 0x0D .badValue
    | some n => match (s.channels.get n).activity with
      | .dressing d => (s.closeDress n d (some (takenDepth depth))).accept 0x0D
      | _ => s.refuse 0x0D .wrongState

/-- DRESS_OVERLONG_EXPIRY: the overlong timer of the open dress of channel n expires (R71). -/
def execDressOverlongExpiry (n : Wheelhead) (s : State) : Host.Outcome State Fault Refusal :=
  match (s.channels.get n).activity with
  | .dressing d => .next (s.finish ((s.reach d.deadline).closeDress n d none))
  | _ => .next s

end Sys2Proof.Machine
end

