-- ==== Sys2Proof/Machine/Sampling.lean ====
section
/-! DEFINITION. The position counters and the signal sampler (sections 2.1 and 2.3): quadrature transitions, sensor frames and
the sample instant. -/

namespace Sys2Proof.Machine

/-! ## Counting (R22, R23) -/

/-- The count a legal transition gives; none for an illegal one (R22). -/
def transitionCount (accepted new : PhasePair) : Option (BitVec 32) :=
  match accepted, new with
  | ⟨false, false⟩, ⟨true, false⟩ => some 1
  | ⟨true, false⟩, ⟨true, true⟩ => some 1
  | ⟨true, true⟩, ⟨false, true⟩ => some 1
  | ⟨false, true⟩, ⟨false, false⟩ => some 1
  | ⟨false, false⟩, ⟨false, true⟩ => some (-1)
  | ⟨false, true⟩, ⟨true, true⟩ => some (-1)
  | ⟨true, true⟩, ⟨true, false⟩ => some (-1)
  | ⟨true, false⟩, ⟨false, false⟩ => some (-1)
  | _, _ => none

/-- An illegal transition: the count stands, the flag is set, the last contacts of the wheel go, and the channel hears
of it (R23). -/
def State.positionFault (s : State) (n : Wheelhead) (pair : PhasePair) : State :=
  ((s.setCounter n { s.counters.get n with pair := pair, fault := true }).clearContacts n).faultChannel n

/-- QUADRATURE_TRANSITION: the inputs of counter n now show this pair (R22). -/
def execQuadratureTransition (n : Wheelhead) (pair : PhasePair) (s : State) : Host.Outcome State Fault Refusal :=
  let c := s.counters.get n
  if pair = c.pair then .next s
  else match transitionCount c.pair pair with
    | some step => .next (s.setCounter n { c with count := c.count + step, pair := pair })
    | none => .next (s.positionFault n pair)

/-! ## Sensor frames (R30) -/

/-- A word of a sensor frame that passes its two tests for place `place`: odd parity and its own channel number. -/
def frameWord (place : Nat) (bits : List Bool) : Option Nat :=
  if bits.countP id % 2 = 1 ∧ natOfBits (bits.take 3) = place then some (natOfBits ((bits.drop 3).take 12)) else none

/-- The four values of a complete frame of 64 bits; none when it is garbled (R30). -/
def frameValues (bits : List Bool) : Option (PerHead Reading) :=
  match frameWord 0 (bits.take 16), frameWord 1 ((bits.drop 16).take 16), frameWord 2 ((bits.drop 32).take 16),
      frameWord 3 ((bits.drop 48).take 16) with
  | some p0, some a0, some p1, some a1 => some ⟨⟨p0, a0⟩, ⟨p1, a1⟩⟩
  | _, _, _, _ => none

/-- One rising edge of SFR_CLK, with the levels of SFR_SYNC and SFR_DAT (R30). -/
def Sampler.edge (x : Sampler) (sync dat : Bool) : Sampler :=
  if sync then { x with partialFrame := some [dat] }
  else match x.partialFrame with
    | none => x
    | some bits =>
      if bits.length < 63 then { x with partialFrame := some (bits ++ [dat]) }
      else
        { x with
          partialFrame := none
          pendingFrame := match frameValues (bits ++ [dat]) with
            | some v => some v
            | none => x.pendingFrame }

/-- SENSOR_FRAME: rising edges of SFR_CLK in order (R30). -/
def execSensorFrame (edges : List (Bool × Bool)) (s : State) : Host.Outcome State Fault Refusal :=
  .next { s with sampler := edges.foldl (fun x e => x.edge e.1 e.2) s.sampler }

/-! ## The sample instant (R31 to R33) -/

/-- The sampler at a sample instant: the pending frame is taken, or the instant is missing (R31 to R33). -/
def Sampler.instant (x : Sampler) : Sampler :=
  match x.pendingFrame with
  | some v => { x with latest := v, missing := 0, lost := ⟨false, false⟩, pendingFrame := none }
  | none =>
    let missing := min (x.missing + 1) 255
    { x with missing := missing, lost := if 8 ≤ missing then ⟨true, true⟩ else x.lost }

/-- The sample delivered to channel n at an instant; `held` says the instant was missing (R24, R31). -/
def State.sampleOf (s : State) (n : Wheelhead) (held : Bool) : Sample :=
  let count := (s.counters.get n).count
  { p := (s.sampler.latest.get n).p, a := (s.sampler.latest.get n).a, position := count
    advanced := decide (1 ≤ s.advance n (s.sampler.previous.get n) count), held := held
    lost := s.sampler.lost.get n }

/-- Channel n takes a sample by its state (R39, R44, R65). -/
def State.takeSample (s : State) (n : Wheelhead) (x : Sample) : State :=
  match (s.channels.get n).activity with
  | .idle => s
  | .stopped => s
  | .journal phase j => s.sampleJournal n phase j x
  | .dressing d => s.sampleDress n d x

/-- The sampler keeps the positions of this instant for the next advance marks (R24). -/
def Sampler.keepPositions (x : Sampler) (counters : PerHead Counter) : Sampler :=
  { x with previous := ⟨counters.w0.count, counters.w1.count⟩ }

/-- SAMPLE_INSTANT: the 0.5 ms tick (R31). Both samples are those of the instant; the channels take theirs in the order
0, 1 (log entry 5). -/
def execSampleInstant (s : State) : Host.Outcome State Fault Refusal :=
  let held := s.sampler.pendingFrame.isNone
  let s1 := { s with clock := s.clock + 1, sampler := s.sampler.instant }
  let s2 := { s1 with sampler := s1.sampler.keepPositions s.counters }
  .next (s.finish ((s2.takeSample .w0 (s1.sampleOf .w0 held)).takeSample .w1 (s1.sampleOf .w1 held)))

end Sys2Proof.Machine
end

