-- ==== Sys2Proof/Machine/Sequence.lean ====
section
/-! DEFINITION. The operation list and the grind sequence (chapter 7): ASSIGN, UNASSIGN, PART BEGIN, PART END and JOURNAL
BEGIN. -/

namespace Sys2Proof.Machine

/-! ## ASSIGN and UNASSIGN (R111 to R113) -/

/-- The checks of an ASSIGN (Table 7-2). -/
def State.checkAssign (s : State) (variant journal cls slot place beforeVariant beforeJournal : Byte) :
    Except Reason (OpEntry × ListPlace) :=
  if s.station = .unconfigured then .error .wrongState
  else if s.sister.part.isSome then .error .busy
  else match opOf variant journal, classOf cls, slotOf slot, listPlaceOf place beforeVariant beforeJournal with
    | some op, some c, some k, some spot => match s.tools.get k with
      | none => .error .unknownTool
      | some t =>
        if (s.wheelheadOfSlot k).isNone then .error .badValue
        else if t.state = .broken then .error .toolBroken
        else if s.sister.listed op || s.sister.isLent op then .error .badValue
        else if (match spot with | .back => false | .before other => !s.sister.listed other) then .error .badValue
        else if 24 ≤ s.sister.occupancy then .error .tableFull
        else .ok ({ op := op, cls := c, slot := k, lender := none, status := .active, mark := none }, spot)
    | _, _, _, _ => .error .badValue

/-- Insert an entry immediately ahead of the entry of a pair. -/
def insertBefore (e : OpEntry) (other : Op) : List OpEntry → List OpEntry
  | [] => []
  | x :: rest => if x.op = other then e :: x :: rest else x :: insertBefore e other rest

/-- The list with a new entry at its place (R112). -/
def placeEntry (e : OpEntry) (place : ListPlace) (entries : List OpEntry) : List OpEntry :=
  match place with
  | .back => entries ++ [e]
  | .before other => insertBefore e other entries

/-- An accepted ASSIGN (R112). -/
def State.assignEntry (s : State) (e : OpEntry) (place : ListPlace) : State :=
  (s.setSister { s.sister with opList := placeEntry e place s.sister.opList }).markStatus

/-- The handling of an ASSIGN (R111). -/
def State.handleAssign (variant journal cls slot place beforeVariant beforeJournal : Byte) (s : State) : State :=
  s.answer 0x06 (s.checkAssign variant journal cls slot place beforeVariant beforeJournal) fun x =>
    (s.assignEntry x.1 x.2).accept 0x06

/-- The checks of an UNASSIGN (R113). -/
def State.checkUnassign (s : State) (variant journal : Byte) : Except Reason OpEntry :=
  if s.station = .unconfigured then .error .wrongState
  else if s.sister.part.isSome then .error .busy
  else match opOf variant journal with
    | none => .error .badValue
    | some op => match s.sister.entry op with
      | none => .error .notMine
      | some e => if e.status = .handing then .error .busy else .ok e

/-- An accepted UNASSIGN (R113). -/
def State.unassignEntry (s : State) (e : OpEntry) : State :=
  (s.setSister { s.sister with opList := s.sister.opList.filter fun x => x.op != e.op }).markStatus

/-- The handling of an UNASSIGN (R113). -/
def State.handleUnassign (variant journal : Byte) (s : State) : State :=
  s.answer 0x07 (s.checkUnassign variant journal) fun e => (s.unassignEntry e).accept 0x07

/-! ## Prefetch triggers (R110, R114, R121) -/

/-- Whether an entry of a variant is ground on wheelhead n by a wheel that is not BROKEN (R110, R114). -/
def State.prefetchable (s : State) (variant : Nat) (n : Wheelhead) (e : OpEntry) : Bool :=
  e.op.variant == variant && s.wheelheadOfSlot e.slot == some n && s.toolIf (fun t => t.state != .broken) e.slot

/-- Offer the store a prefetch for the first candidate of wheelhead n among some entries. -/
def State.prefetchFirst (s : State) (variant : Nat) (n : Wheelhead) (entries : List OpEntry) : State :=
  match entries.find? (s.prefetchable variant n) with
  | some e => s.raisePrefetch (keyOf n e.op)
  | none => s

/-- The entries after an entry, wrapping to the front and running on toward it (R121). -/
def entriesAfter (op : Op) (entries : List OpEntry) : List OpEntry :=
  (entries.dropWhile fun e => e.op != op).drop 1 ++ entries.takeWhile fun e => e.op != op

/-! ## Parts (R114, R115) -/

/-- The checks of a PART BEGIN (R114). -/
def State.checkPartBegin (s : State) (variant : Byte) : Except Reason Nat :=
  if s.station ≠ .running then .error .wrongState
  else if 8 ≤ variant.toNat then .error .badValue
  else if s.sister.part.isSome then .error .busy
  else .ok variant.toNat

/-- An accepted PART BEGIN: the part record, then the prefetches, wheelhead 0 first (R114). -/
def State.beginPart (s : State) (variant : Nat) : State :=
  ((s.setSister { s.sister with part := some variant }).prefetchFirst variant .w0 s.sister.opList).prefetchFirst
    variant .w1 s.sister.opList

/-- The handling of a PART BEGIN (R114). -/
def State.handlePartBegin (variant : Byte) (s : State) : State :=
  s.answer 0x08 (s.checkPartBegin variant) fun v => (s.beginPart v).accept 0x08

/-- Whether a channel has a journal open (R39). -/
def Channel.journalOpen (c : Channel) : Bool :=
  match c.activity with
  | .journal _ _ => true
  | _ => false

/-- The checks of a PART END (R115). -/
def State.checkPartEnd (s : State) : Except Reason Unit :=
  if s.station ≠ .running then .error .wrongState
  else if s.sister.part.isNone then .error .wrongState
  else if s.channels.w0.journalOpen || s.channels.w1.journalOpen then .error .busy
  else .ok ()

/-- Whether an entry leaves at PART END: marked, and not HANDING (R115). -/
def OpEntry.leaves (e : OpEntry) : Bool := e.mark.isSome && e.status != .handing

/-- An accepted PART END (R115). -/
def State.endPart (s : State) : State :=
  let s1 := (s.setSister { s.sister with part := none }).departMarked fun e => e.status != .handing
  if s.sister.opList.any OpEntry.leaves then s1.markStatus else s1

/-- The handling of a PART END (R115). -/
def State.handlePartEnd (s : State) : State :=
  s.answer 0x09 s.checkPartEnd fun _ => s.endPart.accept 0x09

/-! ## JOURNAL BEGIN (R117 to R121) -/

/-- The lookup of a pair (R118). -/
def Sister.lookup (x : Sister) (op : Op) : Option OpEntry := if x.isLent op then none else x.entry op

/-- The tool check of an entry: its wheelhead, or the refusal (R9, R110). -/
def State.checkEntry (s : State) (e : OpEntry) : Except Reason Wheelhead :=
  match s.wheelheadOfSlot e.slot with
  | none => .error .unknownTool
  | some n => match s.toolCheck (some e.slot) with
    | some reason => .error reason
    | none => .ok n

/-- Checks 1 to 4 of a JOURNAL BEGIN, giving the pair (Table 7-3). -/
def State.checkJournalPair (s : State) (variant journal : Byte) : Except Reason Op :=
  if s.station ≠ .running then .error .wrongState
  else match opOf variant journal with
    | none => .error .badValue
    | some op => match s.sister.part with
      | none => .error .wrongState
      | some v => if op.variant ≠ v then .error .badValue else .ok op

/-- A refusal that leaves an unwatched record ahead of its REPLY (R119). -/
def State.refuseUnwatched (s : State) (op : Op) (reason : Reason) : State :=
  (s.send (.unwatched op reason)).refuse 0x0A reason

/-- An accepted JOURNAL BEGIN: the channel arms, then the prefetch is raised (R120). -/
def State.beginJournal (s : State) (n : Wheelhead) (e : OpEntry) : State :=
  (s.arm n e).prefetchFirst e.op.variant n (entriesAfter e.op s.sister.opList)

/-- The handling of a JOURNAL BEGIN (R117). -/
def State.handleJournalBegin (variant journal : Byte) (s : State) : State :=
  s.answer 0x0A (s.checkJournalPair variant journal) fun op =>
    match s.sister.lookup op with
    | none => s.refuseUnwatched op .notMine
    | some e => match s.checkEntry e with
      | .error reason =>
        if reason = .toolBroken then s.refuseUnwatched op reason else s.refuse 0x0A reason
      | .ok n =>
        if (s.channels.get n).state ≠ .idle then s.refuse 0x0A .busy
        else (s.beginJournal n e).accept 0x0A

end Sys2Proof.Machine
end

