-- ==== Sys2Proof/Machine/Intake.lean ====
section
/-! DEFINITION. The taking of requests (R175): the port takes the oldest inbound message whenever one waits and the outbound queue
has room. Here stand the seventeen requests, the unknown message, and the two events of a transaction after which a
message may be taken. -/

namespace Sys2Proof.Machine

/-! ## Handling a message -/

/-- A request is handled to its REPLY by the rule that owns it (R175, step 4), its end being the end of a step (R145;
log entry 4). -/
def State.handleRequest (s : State) : Instr → State
  | .configure figures => s.handleConfigure figures
  | .start => s.finish s.handleStart
  | .restart => s.handleRestart
  | .mount slot kind position toolId group fullLife consumedLife =>
    s.finish (s.handleMount slot kind position toolId group fullLife consumedLife)
  | .dismount slot => s.finish (s.handleDismount slot)
  | .assign variant journal cls slot place beforeVariant beforeJournal =>
    s.finish (s.handleAssign variant journal cls slot place beforeVariant beforeJournal)
  | .unassign variant journal => s.finish (s.handleUnassign variant journal)
  | .partBegin variant => s.handlePartBegin variant
  | .partEnd => s.finish s.handlePartEnd
  | .journalBegin variant journal => s.handleJournalBegin variant journal
  | .journalEnd wheelhead => s.finish (s.handleJournalEnd wheelhead)
  | .dressBegin wheelhead => s.handleDressBegin wheelhead
  | .dressEnd wheelhead depth => s.finish (s.handleDressEnd wheelhead depth)
  | .holdRelease wheelhead => s.handleHoldRelease wheelhead
  | .teach variant journal wheelhead m step => s.handleTeach variant journal wheelhead m step
  | .queryTool slot => s.handleQueryTool slot
  | .queryStation => s.handleQueryStation
  | .unknownRequestCode message => s.handleUnknown message
  | .transactionStart | .transactionEnd _ | .outboundMessageSent | .fullReset _ _ _
  | .quadratureTransition _ _ | .sensorFrame _ | .sampleInstant | .overlongExpiry _ | .dressOverlongExpiry _
  | .fetchReadEnd _ | .writeEnd _ | .writeStatusTimeout | .frameBegin _ | .sendingComplete | .collision _
  | .statusReceived _ _ | .callReceived _ _ | .offerReceived _ _ | .awardReceived _ _ | .takenReceived _ _
  | .declineReceived _ _ | .releaseReceived _ _ | .frameDropped _ _ | .duplicateStation _ _
  | .silenceTimerExpiry | .peerStale _ | .peerRemoved _ | .statusPeriodExpiry | .statusChangeOffer
  | .windowExpiry _ | .awardTimerExpiry _ | .reservationExpiry _ | .lineEdge _ _ => s

/-- A taken message is decoded and handled to its REPLY; one whose code or length fits no request is refused BAD_VALUE
(R175). -/
def State.handleMessage (s : State) (message : List Byte) : State :=
  s.handleRequest ((decodeRequest message).getD (.unknownRequestCode message))

/-! ## Taking messages -/

/-- Take up to so many inbound messages, oldest first, each handled to its REPLY before the next, while the outbound
queue holds fewer than 16 (R175). -/
def State.takeMessages : Nat → State → State
  | 0, s => s
  | k + 1, s =>
    match s.port.inbound with
    | [] => s
    | message :: _ =>
      if s.port.outbound.length < 16 then State.takeMessages k (s.popInbound.handleMessage message) else s

/-- Take every inbound message that may be taken now (R175). -/
def State.serve (s : State) : State := State.takeMessages s.port.inbound.length s

/-- A complete message is offered to the inbound queue, and the port takes what it may (R175; log entry 2). -/
def State.arrive (s : State) (message : List Byte) : State := (s.offerInbound message).serve

/-! ## The seventeen requests (Table 11-6) -/

/-- CONFIGURE (R177). -/
def execConfigure (figures : List (Byte × BitVec 32)) (s : State) : Host.Outcome State Fault Refusal :=
  .next (s.arrive (requestBytes (.configure figures)))

/-- START (R178). -/
def execStart (s : State) : Host.Outcome State Fault Refusal := .next (s.arrive (requestBytes .start))

/-- RESTART (R179). -/
def execRestart (s : State) : Host.Outcome State Fault Refusal := .next (s.arrive (requestBytes .restart))

/-- MOUNT (R4). -/
def execMount (slot kind position : Byte) (toolId : BitVec 32) (group : Byte) (fullLife consumedLife : BitVec 32)
    (s : State) : Host.Outcome State Fault Refusal :=
  .next (s.arrive (requestBytes (.mount slot kind position toolId group fullLife consumedLife)))

/-- DISMOUNT (R7). -/
def execDismount (slot : Byte) (s : State) : Host.Outcome State Fault Refusal :=
  .next (s.arrive (requestBytes (.dismount slot)))

/-- ASSIGN (R111). -/
def execAssign (variant journal cls slot place beforeVariant beforeJournal : Byte) (s : State) :
    Host.Outcome State Fault Refusal :=
  .next (s.arrive (requestBytes (.assign variant journal cls slot place beforeVariant beforeJournal)))

/-- UNASSIGN (R113). -/
def execUnassign (variant journal : Byte) (s : State) : Host.Outcome State Fault Refusal :=
  .next (s.arrive (requestBytes (.unassign variant journal)))

/-- PART BEGIN (R114). -/
def execPartBegin (variant : Byte) (s : State) : Host.Outcome State Fault Refusal :=
  .next (s.arrive (requestBytes (.partBegin variant)))

/-- PART END (R115). -/
def execPartEnd (s : State) : Host.Outcome State Fault Refusal := .next (s.arrive (requestBytes .partEnd))

/-- JOURNAL BEGIN (R117). -/
def execJournalBegin (variant journal : Byte) (s : State) : Host.Outcome State Fault Refusal :=
  .next (s.arrive (requestBytes (.journalBegin variant journal)))

/-- JOURNAL END (R56). -/
def execJournalEnd (wheelhead : Byte) (s : State) : Host.Outcome State Fault Refusal :=
  .next (s.arrive (requestBytes (.journalEnd wheelhead)))

/-- DRESS BEGIN (R63). -/
def execDressBegin (wheelhead : Byte) (s : State) : Host.Outcome State Fault Refusal :=
  .next (s.arrive (requestBytes (.dressBegin wheelhead)))

/-- DRESS END (R67). -/
def execDressEnd (wheelhead : Byte) (depth : BitVec 16) (s : State) : Host.Outcome State Fault Refusal :=
  .next (s.arrive (requestBytes (.dressEnd wheelhead depth)))

/-- HOLD RELEASE (R61). -/
def execHoldRelease (wheelhead : Byte) (s : State) : Host.Outcome State Fault Refusal :=
  .next (s.arrive (requestBytes (.holdRelease wheelhead)))

/-- TEACH (R96). -/
def execTeach (variant journal wheelhead m : Byte) (step : BitVec 16) (s : State) : Host.Outcome State Fault Refusal :=
  .next (s.arrive (requestBytes (.teach variant journal wheelhead m step)))

/-- QUERY TOOL (R20). -/
def execQueryTool (slot : Byte) (s : State) : Host.Outcome State Fault Refusal :=
  .next (s.arrive (requestBytes (.queryTool slot)))

/-- QUERY STATION (R184). -/
def execQueryStation (s : State) : Host.Outcome State Fault Refusal := .next (s.arrive (requestBytes .queryStation))

/-- UNKNOWN_REQUEST_CODE: a message arrives whose code or length fits no request (R175). No message is empty (R173). -/
def execUnknownRequestCode (message : List Byte) (s : State) : Host.Outcome State Fault Refusal :=
  if message.isEmpty then .next s else .next (s.arrive message)

/-! ## Transactions (R173, R174) -/

/-- The last bit of the message being sent is clocked out: it leaves the queue, and a message that waits for its place is
taken (R174, R175). -/
def State.messageSent (s : State) : State := (s.setPort s.port.sent).serve

/-- The outbound side of a transaction's end: a message whose last bit its clocks reached has left, and one cut short
keeps its place or is superseded (R174, R182). -/
def State.endSending (s : State) (clocks : Nat) : State :=
  if s.port.sending then
    if 8 * s.port.shifter.length ≤ clocks then s.messageSent else s.setPort s.port.cutShort
  else s

/-- TRANSACTION_END: MCS_N rises (R173, R174), and a complete inbound message arrives. What the rise does to the message being
sent comes first, so a pending TOOL NOTICE stands ahead of the REPLY (log entry 54). The rise after a full reset that found
MCS_N low begins nothing (R180). -/
def execTransactionEnd (bits : List Bool) (s : State) : Host.Outcome State Fault Refusal :=
  match s.port.select with
  | .high => .next s
  | .ignored => .next (s.setPort { s.port with select := .high })
  | .low =>
    let s1 := s.endSending bits.length
    let s2 := s1.setPort { s1.port with select := .high, shifter := [] }
    .next (match receivedMessage bits with
      | some message => s2.arrive message
      | none => s2)

/-- OUTBOUND_MESSAGE_SENT: the last bit of the message being sent is clocked out (R174). -/
def execOutboundMessageSent (s : State) : Host.Outcome State Fault Refusal :=
  if s.port.sending then .next s.messageSent else .next s

end Sys2Proof.Machine
end

