-- ==== Sys2Proof/Machine/Timers.lean ====
section
/-! DEFINITION. The expiries of the link's and the sister unit's timers: silence (R139), the ages of peer entries (R148,
R151), the STATUS timers (R145), the window and award timers (R161, R164) and the reservations (R159). An expiry acts
whenever its timer runs, and brings the clock to the moment it stood for (log entry 3). -/

namespace Sys2Proof.Machine

/-- SILENCE_TIMER_EXPIRY: every peer entry becomes STALE, SILENT is queued, and the silent condition begins (R139). -/
def execSilenceTimerExpiry (s : State) : Host.Outcome State Fault Refusal :=
  match s.link.silence with
  | some t =>
    let s1 := s.reach t
    let s2 := (s1.setSister s1.sister.allStale).sendLinkNotice .silent
    .next (s2.setLink { s2.link with silence := none, silent := true })
  | none => .next s

/-- PEER_STALE: the age of a LIVE entry reaches three times its period (R148). -/
def execPeerStale (station : Nat) (s : State) : Host.Outcome State Fault Refusal :=
  match s.sister.peer station with
  | some p => .next (if p.live then s.stalePeer p else s)
  | none => .next s

/-- PEER_REMOVED: the age of an entry reaches ten times its period (R151). -/
def execPeerRemoved (station : Nat) (s : State) : Host.Outcome State Fault Refusal :=
  match s.sister.peer station with
  | some p => .next (s.finish (s.removePeer p))
  | none => .next s

/-- STATUS_PERIOD_EXPIRY: a STATUS is offered; an expiry during the sending of a STATUS is void (R145). -/
def execStatusPeriodExpiry (s : State) : Host.Outcome State Fault Refusal :=
  match s.sister.period with
  | some t =>
    if s.station = .running ∧ s.link.statusSending = false then .next (s.reach t).offerStatus else .next (s.reach t)
  | none => .next s

/-- STATUS_CHANGE_OFFER: the 10 ms after the last STATUS sent end with the mark set, and a STATUS is offered (R145). -/
def execStatusChangeOffer (s : State) : Host.Outcome State Fault Refusal :=
  match s.sister.lastSent with
  | some t =>
    if s.station = .running ∧ s.sister.mark = true ∧ s.link.statusSending = false then
      .next (s.reach (t + halfMs 10)).offerStatus
    else .next s
  | none => .next s

/-- WINDOW_EXPIRY: the call window of the open hand-off of a group expires (R161). -/
def execWindowExpiry (group : Nat) (s : State) : Host.Outcome State Fault Refusal :=
  match s.sister.openOf group with
  | some h => match h.phase, h.timer with
    | .calling, some t => .next (s.finish ((s.reach t).expireWindow h))
    | _, _ => .next s
  | none => .next s

/-- AWARD_TIMER_EXPIRY: the award timer of the open hand-off of a group expires (R164). -/
def execAwardTimerExpiry (group : Nat) (s : State) : Host.Outcome State Fault Refusal :=
  match s.sister.openOf group with
  | some h => match h.phase, h.timer with
    | .awarding _, some t => .next (s.finish ((s.reach t).endRound h))
    | _, _ => .next s
  | none => .next s

/-- RESERVATION_EXPIRY: the reservation of a tool reaches its expiry and is released (R159). -/
def execReservationExpiry (slot : Fin 8) (s : State) : Host.Outcome State Fault Refusal :=
  match s.sister.reservations.get slot with
  | some r => .next (s.finish ((s.reach r.expiry).releaseReservation slot))
  | none => .next s

end Sys2Proof.Machine
end

