-- ==== Sys2Proof/Machine/Dispatch.lean ====
section
/-! DEFINITION. The dispatch of the commands: one arm per row of spec/opcode_table.json, each one call of its meaning. -/

namespace Sys2Proof.Machine

/-- The effect of a command on everything but the queue of waiting commands. -/
def exec (i : Instr) (s : State) : Host.Outcome State Fault Refusal :=
  match i with
  | .configure figures => Sys2Proof.Machine.execConfigure figures s
  | .start => Sys2Proof.Machine.execStart s
  | .restart => Sys2Proof.Machine.execRestart s
  | .mount slot kind position toolId group fullLife consumedLife => Sys2Proof.Machine.execMount slot kind position toolId group fullLife consumedLife s
  | .dismount slot => Sys2Proof.Machine.execDismount slot s
  | .assign variant journal cls slot place beforeVariant beforeJournal => Sys2Proof.Machine.execAssign variant journal cls slot place beforeVariant beforeJournal s
  | .unassign variant journal => Sys2Proof.Machine.execUnassign variant journal s
  | .partBegin variant => Sys2Proof.Machine.execPartBegin variant s
  | .partEnd => Sys2Proof.Machine.execPartEnd s
  | .journalBegin variant journal => Sys2Proof.Machine.execJournalBegin variant journal s
  | .journalEnd wheelhead => Sys2Proof.Machine.execJournalEnd wheelhead s
  | .dressBegin wheelhead => Sys2Proof.Machine.execDressBegin wheelhead s
  | .dressEnd wheelhead depth => Sys2Proof.Machine.execDressEnd wheelhead depth s
  | .holdRelease wheelhead => Sys2Proof.Machine.execHoldRelease wheelhead s
  | .teach variant journal wheelhead m step => Sys2Proof.Machine.execTeach variant journal wheelhead m step s
  | .queryTool slot => Sys2Proof.Machine.execQueryTool slot s
  | .queryStation => Sys2Proof.Machine.execQueryStation s
  | .unknownRequestCode message => Sys2Proof.Machine.execUnknownRequestCode message s
  | .transactionStart => Sys2Proof.Machine.execTransactionStart s
  | .transactionEnd bits => Sys2Proof.Machine.execTransactionEnd bits s
  | .outboundMessageSent => Sys2Proof.Machine.execOutboundMessageSent s
  | .fullReset pair0 pair1 selectLow => Sys2Proof.Machine.execFullReset pair0 pair1 selectLow s
  | .quadratureTransition n pair => Sys2Proof.Machine.execQuadratureTransition n pair s
  | .sensorFrame edges => Sys2Proof.Machine.execSensorFrame edges s
  | .sampleInstant => Sys2Proof.Machine.execSampleInstant s
  | .overlongExpiry n => Sys2Proof.Machine.execOverlongExpiry n s
  | .dressOverlongExpiry n => Sys2Proof.Machine.execDressOverlongExpiry n s
  | .fetchReadEnd bytes => Sys2Proof.Machine.execFetchReadEnd bytes s
  | .writeEnd readBack => Sys2Proof.Machine.execWriteEnd readBack s
  | .writeStatusTimeout => Sys2Proof.Machine.execWriteStatusTimeout s
  | .frameBegin wait => Sys2Proof.Machine.execFrameBegin wait s
  | .sendingComplete => Sys2Proof.Machine.execSendingComplete s
  | .collision line => Sys2Proof.Machine.execCollision line s
  | .statusReceived a b => Sys2Proof.Machine.execStatusReceived a b s
  | .callReceived a b => Sys2Proof.Machine.execCallReceived a b s
  | .offerReceived a b => Sys2Proof.Machine.execOfferReceived a b s
  | .awardReceived a b => Sys2Proof.Machine.execAwardReceived a b s
  | .takenReceived a b => Sys2Proof.Machine.execTakenReceived a b s
  | .declineReceived a b => Sys2Proof.Machine.execDeclineReceived a b s
  | .releaseReceived a b => Sys2Proof.Machine.execReleaseReceived a b s
  | .frameDropped a b => Sys2Proof.Machine.execFrameDropped a b s
  | .duplicateStation a b => Sys2Proof.Machine.execDuplicateStation a b s
  | .silenceTimerExpiry => Sys2Proof.Machine.execSilenceTimerExpiry s
  | .peerStale station => Sys2Proof.Machine.execPeerStale station s
  | .peerRemoved station => Sys2Proof.Machine.execPeerRemoved station s
  | .statusPeriodExpiry => Sys2Proof.Machine.execStatusPeriodExpiry s
  | .statusChangeOffer => Sys2Proof.Machine.execStatusChangeOffer s
  | .windowExpiry group => Sys2Proof.Machine.execWindowExpiry group s
  | .awardTimerExpiry group => Sys2Proof.Machine.execAwardTimerExpiry group s
  | .reservationExpiry slot => Sys2Proof.Machine.execReservationExpiry slot s
  | .lineEdge line edge => Sys2Proof.Machine.execLineEdge line edge s

end Sys2Proof.Machine
end

