-- ==== Sys2Proof/Safety.lean ====
section
/-! DEFINITION. What the statements say of a run: when a request is taken at once, what a command may have changed, what a
receiver hears, and the bounds that every step keeps. No step of the block stops, so a safe run is one within these
bounds. -/

namespace Sys2Proof.Machine

/-! ## Requests -/

/-- The request's message is taken the moment it comes: no other waits inbound, and the outbound queue has room
(R175). -/
def State.takesNow (s : State) (i : Instr) : Bool :=
  !(requestBytes i).isEmpty && s.port.inbound.isEmpty && decide (s.port.outbound.length < 16)

/-- The messages that wait inbound once a command has brought its own, oldest first (R173, R175). -/
def State.incoming (s : State) (i : Instr) : List (List Byte) :=
  s.port.inbound ++
    match i with
    | .transactionEnd bits => (receivedMessage bits).toList
    | _ => if (requestBytes i).isEmpty then [] else [requestBytes i]

/-- The state in which a request is handled: its message has left the inbound queue (R175). -/
abbrev State.taking (s : State) : State := s.popInbound

/-- The request's message has left the inbound queue and its REPLY stands at the back of the outbound one (R175,
R182). -/
def State.answered (s : State) (code : Byte) (answer : Answer) : State :=
  { s with
    port := { s.port with
      inbound := s.port.inbound.tail, outbound := s.port.outbound ++ [.reply code answer] } }

/-- A request is refused under its code with this reason, and nothing else changes (R175, R181). -/
def State.refuses (s : State) (i : Instr) (code : Byte) (reason : Reason) : Prop :=
  exec i s = .next (s.answered code (.refused reason))

/-- A waiting message can be taken only when the outbound queue has room: one waits inbound only while it is full (R175;
log entry 2). -/
def State.inboundServed (s : State) : Prop := s.port.inbound ≠ [] → s.port.outbound.length = 16

/-- The newest outbound message is the REPLY of a request with this answer (R181, R182). -/
def State.repliedLast (s : State) (code : Byte) (answer : Answer) : Prop :=
  s.port.outbound.getLast? = some (.reply code answer)

/-- The REPLIES that wait outbound, oldest first. -/
def State.replies (s : State) : List OutMsg := s.port.outbound.filter OutMsg.isReply

/-- A TOOL NOTICE of the slot waits outbound or behind the one being sent, unless a notice has been lost (R182,
R183). -/
def State.tellsOfSlot (s : State) (slot : Fin 8) : Prop :=
  s.port.outbound.any (OutMsg.isToolNoticeFor slot) = true ∨ (s.port.pendingNotices.get slot).isSome = true ∨
    s.port.noticesLost = true

/-- The record waits outbound, unless a record has been lost (R183). -/
def State.tellsRecord (s : State) (m : OutMsg) : Prop := m ∈ s.port.outbound ∨ s.port.recordsLost = true

/-- The notice waits outbound, unless a notice has been lost (R183). -/
def State.tellsNotice (s : State) (m : OutMsg) : Prop := m ∈ s.port.outbound ∨ s.port.noticesLost = true

/-- An OPS_BACK notice that names this peer and these pairs waits outbound, unless a notice has been lost (R171). -/
def State.tellsBack (s : State) (peer : Option Nat) (moved : List Op) : Prop :=
  ∃ n : SwapNotice, n.kind = .opsBack ∧ n.peer = peer ∧ n.moved = moved ∧ s.tellsNotice (.swapNotice n)

/-! ## What may have changed -/

/-- `t` with the parts a report may change taken from `s`: the sister unit, the transmit queue, and the messages that
wait outbound with the flags of the lost ones. -/
def State.withReportsOf (s t : State) : State :=
  { s with
    sister := t.sister
    link := { s.link with queue := t.link.queue }
    port :=
      { s.port with
        outbound := t.port.outbound, pendingNotices := t.port.pendingNotices, recordsLost := t.port.recordsLost
        noticesLost := t.port.noticesLost } }

/-- From `s` to `t` nothing changed but the sister unit, the transmit queue and the waiting outbound messages. -/
def State.reportsOnly (s t : State) : Prop := t = s.withReportsOf t

/-- From `s` to `t` nothing changed but the waiting outbound messages, with the flags of the lost ones. -/
def State.messagesOnly (s t : State) : Prop := t = { s.withReportsOf t with sister := s.sister, link := s.link }

/-- `t` is `s`, but for the STATUS that is offered at once when one is due: with the mark set in RUNNING, no STATUS being
sent, and one waiting or the 10 ms over (R145). -/
def State.statusOnly (s t : State) : Prop := t = if s.statusDue then s.offerStatus else s

/-- A request is refused under its code with this reason, and nothing else changes but the offer of a STATUS that was
due (R145, R175, R181). -/
def State.refusesAndOffers (s : State) (i : Instr) (code : Byte) (reason : Reason) : Prop :=
  ∃ t, exec i s = .next t ∧ (s.answered code (.refused reason)).statusOnly t

/-- From `s` to `t` nothing changed but the waiting outbound messages and the offer of a STATUS that was due. -/
def State.messagesAndStatus (s t : State) : Prop :=
  s.messagesOnly { s with port := t.port } ∧ { s with port := t.port }.statusOnly t

/-- The frames of the urgent and the normal class in the transmit queue, oldest first (R128). -/
def Link.frames (l : Link) : List QueuedFrame := l.queue.filter fun f => !f.body.isStatus

/-- The sister unit and the frames of `t` are those of `s`, but for the offer of a STATUS that was due. -/
def State.sameSisters (s t : State) : Prop :=
  t.sister = { s.sister with mark := t.sister.mark, period := t.sister.period } ∧ t.link.frames = s.link.frames

/-- From `s` to `t` nothing changed but what a received frame changes: the sister unit, the transmit queue, the lines
with the frames under way, the silence timer with its condition, the flag of a duplicate station, and the waiting outbound
messages (R134 to R139). -/
def State.frameOnly (s t : State) : Prop :=
  t = { s.withReportsOf t with
    link := { s.link with
      queue := t.link.queue, lines := t.link.lines, begun := t.link.begun, silence := t.link.silence, silent := t.link.silent
      duplicate := t.link.duplicate } }

/-! ## Figure lists, verdicts and closes -/

/-- A figure list passes the three checks of R177. -/
def figuresFit (figures : List (Byte × BitVec 32)) : Prop :=
  (∀ f ∈ figures, 1 ≤ f.1.toNat ∧ f.1.toNat ≤ 36) ∧ (figures.map (·.1)).Nodup ∧
    (∃ f ∈ figures, f.1.toNat = 1 ∧ 1 ≤ f.2.toInt ∧ f.2.toInt ≤ 16) ∧
    (∀ f ∈ figures, f.1.toNat = 12 ∨ f.1.toNat = 13 → f.2.toInt = 1 ∨ f.2.toInt = -1) ∧
    ∀ f ∈ figures, 28 ≤ f.1.toNat → 0 ≤ f.2.toInt ∧ f.2.toInt ≤ 2

/-- The tool of a slot is BROKEN. -/
def State.brokenAt (s : State) (slot : Fin 8) : Prop := s.toolIf (fun t => t.state == .broken) slot = true

/-- From `s` to `t` the tool of a slot, if one is mounted there, is left BROKEN; one that was not gives up its reservation,
and its BREAK trigger is taken (R16, R155, R159). -/
def brokenWithin (s t : State) (slot : Fin 8) : Prop :=
  ∀ tool, s.tools.get slot = some tool → t.brokenAt slot ∧
    (tool.state ≠ .broken →
      ({ s with
          tools := t.tools
          sister := { s.sister with reservations := s.sister.reservations.set slot none } }.takeTrigger slot tool.group
        tool.seat .break).sameSisters t)

/-- From `u` to `t` the tool of a slot has been left BROKEN and told of in a TOOL NOTICE, with the report that follows; a
BROKEN tool, and an empty slot, leave everything as it was (R16). -/
def breaksTool (u t : State) (slot : Fin 8) : Prop :=
  ((∀ tool, u.tools.get slot = some tool → tool.state = .broken) → t = u) ∧
  ∀ tool, u.tools.get slot = some tool → tool.state ≠ .broken →
    (u.setTool slot (some { tool with state := .broken })).reportsOnly t ∧ t.tellsOfSlot slot

/-- Channel n is HELD on a verdict, with its feed hold asserted (R53, R60). -/
def heldBy (t : State) (n : Wheelhead) (v : HoldVerdict) : Prop :=
  (∃ j, (t.channels.get n).activity = .journal .held j ∧ j.verdict = some v) ∧ t.holdAsserted n = true

/-- From `s` to `t` the dress-due run of the wheel in a slot, which stood as `tool` and stands as `after`, has taken a charged
journal of wheelhead n with energy ratio q: DRESS DUE is told exactly when the run rises to dress_count, and an unfit roll
makes the wheel dress blocked then, with its TOOL NOTICE (R73, R74). -/
def dressRunMoved (s t : State) (n : Wheelhead) (slot : Fin 8) (tool after : Tool) (q : Nat) : Prop :=
  let c := s.figures
  let u := { s with tools := t.tools }
  let unfit : Prop := ∀ k roll, u.rollAt n = some k → u.tools.get k = some roll →
    roll.state = .spent ∨ roll.state = .broken
  let due : Prop := tool.state ≠ .broken ∧ c.dressRatio ≤ q ∧ tool.dressRun + 1 = c.dressCount
  (tool.state = .broken → after.dressRun = tool.dressRun) ∧
  (tool.state ≠ .broken → c.dressRatio ≤ q → after.dressRun = min (tool.dressRun + 1) c.dressCount) ∧
  (tool.state ≠ .broken → q < c.dressRatio → after.dressRun = 0) ∧
  (after.dressBlocked = true ↔ tool.dressBlocked = true ∨ due ∧ unfit) ∧
  (due → (unfit → tool.dressBlocked = false → t.tellsOfSlot slot) ∧
    ∃ blocked, (blocked = true ↔ tool.dressBlocked = true ∨ unfit) ∧ t.tellsNotice (.dressDue
      { wheelSlot := slot, id := tool.id, wheelhead := n, run := c.dressCount, q := q
        roll := (u.rollAt n).bind fun k => (u.tools.get k).map fun roll => (k, roll.state), blocked := blocked })) ∧
  (¬ due → ∀ d, t.port.outbound.count (.dressDue d) ≤ s.port.outbound.count (.dressDue d))

/-- From `s` to `t` the journal j of channel n, in a phase, has been closed, by its overlong timer or not (R14, R28,
R58, R59), with the dress-due run that follows its charge (R73, R74). -/
def closedJournal (s t : State) (n : Wheelhead) (phase : JournalPhase) (j : Journal) (overlong : Bool) : Prop :=
  let r := s.grindRecord n j overlong
  (t.channels.get n).activity = (if phase = .held then .stopped else .idle) ∧
  t.counters = s.counters.set n { s.counters.get n with journalEnd := some (s.counters.get n).count } ∧
  t.tellsRecord (.grindRecord r) ∧
  (∀ v, j.verdict = some v → r.verdict = .hold v) ∧
  (j.verdict = none → r.verdict = (if overlong then .overlong else if j.heavy then .heavy else .none)) ∧
  (∀ tool, s.tools.get j.slot = some tool → ∃ after, t.tools.get j.slot = some after ∧
    after = { tool.charge s.figures.overrunAllowance r.charge with
      dressRun := after.dressRun, dressBlocked := after.dressBlocked } ∧
    dressRunMoved s t n j.slot tool after r.q ∧ (Tool.noticed tool after = true → t.tellsOfSlot j.slot) ∧
    let u := { s with tools := t.tools }
    ((if tool.dressBlocked = false ∧ after.dressBlocked = true then
        u.takeTrigger j.slot tool.group tool.seat .dressBlocked
      else u).reportState j.slot tool.state).sameSisters t) ∧
  (∀ slot, slot ≠ j.slot → t.tools.get slot = s.tools.get slot) ∧
  (∀ k, k ≠ n → t.channels.get k = s.channels.get k) ∧
  t.station = s.station ∧ t.config = s.config ∧ t.sampler = s.sampler ∧ t.sister.part = s.sister.part ∧
  t.sister.lent = s.sister.lent ∧ t.sister.peers = s.sister.peers ∧ t.link.lines = s.link.lines ∧
  t.port.inbound = s.port.inbound

/-- From `s` to `t` the dress d of channel n, of a wheel and a roll, has been closed, on a reported depth or, without
one, by its overlong timer (R15, R67 to R72). -/
def closedDress (s t : State) (n : Wheelhead) (d : Dress) (wheel roll : Tool) (reported : Option Nat) : Prop :=
  let r := s.dressRecord n d reported
  let isVoid := d.contactSeen = false ∧ d.sensorLoss = false ∧ ∃ depth, reported = some depth ∧ s.figures.dressTol < depth
  let shift (x : Pos) : Pos := x + BitVec.ofInt 32 ((r.depth : Int) * s.figures.dir n)
  let told := ({ s with tools := t.tools }.reportState d.wheelSlot wheel.state).reportState d.rollSlot roll.state
  r.wheelCharge = r.depth * s.figures.kWheel ∧ r.rollCharge = s.figures.kRoll ∧ r.depth ≤ 500 ∧
  (reported = none → r.depthMismatch = false ∧ r.depth = match (s.counters.get n).dressContact with
    | some contact => min ((s.counters.get n).count - contact).toInt.natAbs 500
    | none => 0) ∧
  (r.outcome = .void ↔ isVoid) ∧ (r.outcome = .overlong ↔ reported = none) ∧
  t.tools.get d.wheelSlot = some { wheel.charge s.figures.overrunAllowance r.wheelCharge with
    contacts := ⟨wheel.contacts.main.map shift, wheel.contacts.pin.map shift, wheel.contacts.endFeature.map shift⟩
    dressRun := if reported.isSome then 0 else wheel.dressRun
    dressBlocked := if reported.isSome then false else wheel.dressBlocked } ∧
  (isVoid → t.tools.get d.rollSlot =
    some { roll.charge s.figures.overrunAllowance r.rollCharge with state := .broken }) ∧
  (¬ isVoid → t.tools.get d.rollSlot = some (roll.charge s.figures.overrunAllowance r.rollCharge)) ∧
  (∀ slot, slot ≠ d.wheelSlot → slot ≠ d.rollSlot → t.tools.get slot = s.tools.get slot) ∧
  (isVoid → t.channels = s.channels.set n { s.channels.get n with activity := .stopped }) ∧
  (¬ isVoid → t.channels = s.channels.set n { s.channels.get n with activity := .idle }) ∧
  t.counters = s.counters.set n { s.counters.get n with dressEnd := some (s.counters.get n).count } ∧
  t.tellsRecord (.dressRecord r) ∧
  (∀ after, t.tools.get d.wheelSlot = some after →
    (Tool.noticed wheel after = true ∨ wheel.dressBlocked = true ∧ reported.isSome = true) → t.tellsOfSlot d.wheelSlot) ∧
  (∀ after, t.tools.get d.rollSlot = some after → Tool.noticed roll after = true → t.tellsOfSlot d.rollSlot) ∧
  (if wheel.dressBlocked = true ∧ reported.isSome = true then told.reportUnblocked d.wheelSlot else told).sameSisters t ∧
  t.station = s.station ∧ t.config = s.config ∧ t.sampler = s.sampler ∧ t.store = s.store ∧
  t.sister.part = s.sister.part ∧ t.sister.lent = s.sister.lent ∧ t.sister.peers = s.sister.peers ∧
  t.link.lines = s.link.lines ∧ t.port.inbound = s.port.inbound

/-! ## Rounds of a hand-off -/

/-- The hand-off of a batch as it opens (R157). -/
def State.firstRound (s : State) (t : Trigger) (lender : Option Nat) (batch : List BatchOp) : HandOff :=
  { group := t.group, slot := t.slot, seat := t.seat, trigger := t.kind, lender := lender, batch := batch
    needPlaces := batch.length, needLife := s.figures.needLife batch, round := 1, phase := .calling, tag := s.sister.tag
    earlier := [], offers := [], timer := none }

/-- A hand-off as it enters a round under a trigger: the tag counter's value is its tag, the old tag joins the earlier
ones, the offer set is empty and the need figures are found anew (R161, R167). -/
def State.laterRound (s : State) (h : HandOff) (trigger : TriggerKind) (round : Nat) : HandOff :=
  { h with
    trigger := trigger, round := round, phase := .calling, tag := s.sister.tag
    earlier := h.earlier ++ [(h.tag, h.awarded)], offers := [], timer := none, needPlaces := h.batch.length
    needLife := s.figures.needLife h.batch }

/-- The CALL of a hand-off as it joins the transmit queue: urgent with half the window after BREAK and DRESS_BLOCKED
(R157). -/
def State.callFrame (s : State) (h : HandOff) : QueuedFrame :=
  let urgent := decide (h.trigger = .break ∨ h.trigger = .dressBlocked)
  { body := .call
      { tag := h.tag, group := h.group, urgent := urgent
        window := if urgent then s.figures.wCall / 2 else s.figures.wCall, needPlaces := h.needPlaces
        needLife := h.needLife, ops := h.batch.map fun b => { op := b.op, cls := b.cls, lender := h.lender } }
    attempts := 0, sending := false }

/-- The state in which an open hand-off has entered its next round: its CALL waits under a new tag (R161, R164). -/
def State.calledAgain (s : State) (h : HandOff) : State :=
  let next := s.laterRound h h.trigger (h.round + 1)
  { s with
    sister := { s.sister with
      tag := s.sister.tag + 1, handOffs := s.sister.handOffs.map fun k => if k.group = h.group then next else k }
    link := { s.link with queue := s.link.queue ++ [s.callFrame next] } }

/-- The state in which a hand-off has been opened for a batch: its operations are HANDING and its first CALL waits under
a new tag (R157). -/
def State.openedFor (s : State) (t : Trigger) (lender : Option Nat) (batch : List BatchOp) : State :=
  let h := s.firstRound t lender batch
  { s with
    sister := { s.sister with
      tag := s.sister.tag + 1, handOffs := s.sister.handOffs ++ [h]
      opList := s.sister.opList.map fun e =>
        if e.op ∈ batch.map BatchOp.op then { e with status := .handing } else e }
    link := { s.link with queue := s.link.queue ++ [s.callFrame h] } }

/-- The state in which a hand-off has ended FAILED: a standing record stands in its place, and its operations are ACTIVE
after WEAR and ORPHAN otherwise (R166). -/
def State.failed (s : State) (h : HandOff) : State :=
  { s with
    sister := { s.sister with
      handOffs := s.sister.handOffs.filter fun k => k.group != h.group
      opList := s.sister.opList.map fun e =>
        if e.op ∈ h.pairs ∧ e.status = .handing then
          { e with status := if h.trigger = .wear then OpStatus.active else OpStatus.orphan }
        else e
      standing := s.sister.standing ++
        [{ group := h.group, slot := h.slot, seat := h.seat, trigger := h.trigger, lender := h.lender, pairs := h.pairs
           needPlaces := h.needPlaces, needLife := h.needLife }] } }

/-- NO_SISTER names the slot, the group and the operations of a hand-off that ended FAILED (R166). -/
def State.tellsFailed (s : State) (h : HandOff) : Prop :=
  s.tellsNotice (.swapNotice
    { kind := .noSister, group := some h.group, slot := some h.slot, slot2 := none, peer := none, moved := h.pairs
      dropped := [] })

/-- Nothing follows the FAILED ending of a hand-off: none of its operations leaves, no other operation of the slot is free,
and no trigger of the group waits (steps 1 to 3 of R166). -/
def State.failsAlone (s : State) (h : HandOff) : Prop :=
  (s.sister.part ≠ none ∨ ∀ e ∈ s.sister.opList, e.op ∈ h.pairs → e.mark = none) ∧
    (s.failed h).sister.freeOps h.slot = [] ∧ ∀ q ∈ s.sister.triggers, q.group ≠ h.group

/-- The state in which a round of an open hand-off has ended with the transmit queue full: each CALL that follows is discarded
at its offer, which ends its round at once, so that the hand-off has ended FAILED with a tag used for each (R129, R157, R161). -/
def State.failedFull (s : State) (h : HandOff) : State :=
  let u := s.failed (if h.round < 3 then
    { h with needPlaces := h.batch.length, needLife := s.figures.needLife h.batch } else h)
  { u with sister := { u.sister with tag := s.sister.tag + BitVec.ofNat 8 (3 - h.round) } }

/-- The state in which a hand-off has been opened for a batch with the transmit queue full, and has ended FAILED
(R129, R157). -/
def State.openedFull (s : State) (t : Trigger) (lender : Option Nat) (batch : List BatchOp) : State :=
  State.failedFull { s.openedFor t lender batch with link := s.link } (s.firstRound t lender batch)

/-- The state in which a hand-off has ended CANCELLED: its operations are ACTIVE on its slot, and an AWARD with no winner
waits under its tag where the transmit queue has room (R166, R168). -/
def State.cancelled (s : State) (h : HandOff) : State :=
  { s with
    sister := { s.sister with
      handOffs := s.sister.handOffs.filter fun k => k.group != h.group
      opList := s.sister.opList.map fun e =>
        if e.op ∈ h.pairs ∧ e.status = .handing then { e with slot := h.slot, status := .active } else e }
    link := { s.link with
      queue := s.link.queue ++
        if s.link.framesHeld < 8 then [{ body := .award h.tag h.group none, attempts := 0, sending := false }] else [] } }

/-- LOCAL names the slot, the group and the operations of a hand-off that was cancelled (R168). -/
def State.tellsCancelled (s : State) (h : HandOff) : Prop :=
  s.tellsNotice (.swapNotice
    { kind := .local, group := some h.group, slot := some h.slot, slot2 := none, peer := none, moved := h.pairs
      dropped := [] })

/-- From `s` to `t` the hand-off has ended CANCELLED: an AWARD that found the transmit queue full is told by QUEUE_FULL, its
marked operations leave where no part is in progress, and the oldest waiting trigger of its group opens its own hand-off
where it can (R129, R166, R168). -/
def State.cancels (s t : State) (h : HandOff) : Prop :=
  let x := s.cancelled h
  let leaves (e : OpEntry) : Bool := s.sister.part.isNone && e.mark.isSome && decide (e.op ∈ h.pairs)
  t.tellsCancelled h ∧ (8 ≤ s.link.framesHeld → t.tellsNotice (.linkNotice (.queueFull .award))) ∧
  (∀ e ∈ s.sister.opList, leaves e = true → t.tellsBack e.lender [e.op]) ∧
  ((∀ q ∈ s.sister.triggers, q.group ≠ h.group) →
    t.sister = { x.sister with opList := x.sister.opList.filter fun e => !leaves e } ∧
    ((∀ e ∈ s.sister.opList, leaves e = false) → x.messagesOnly t)) ∧
  ((∀ e ∈ s.sister.opList, leaves e = false) → ∀ q, s.sister.triggers.find? (fun q => q.group == h.group) = some q →
    let y := { x with sister := { x.sister with triggers := s.sister.triggers.erase q } }
    ∀ e rest, y.sister.freeOps q.slot = e :: rest → y.localSister q = none →
      (e.lender = none → 1 ≤ y.sister.lentRoom) →
      let alike := ((e :: rest).filter fun k => k.lender == e.lender).map fun k => (⟨k.op, k.cls⟩ : BatchOp)
      let batch := alike.take (if e.lender = none then min 12 y.sister.lentRoom else 12)
      let opened := y.firstRound q e.lender batch
      (y.link.framesHeld < 8 → (y.openedFor q e.lender batch).messagesOnly t) ∧
      (8 ≤ y.link.framesHeld → (y.openedFor q e.lender batch).failsAlone opened →
        (y.openedFull q e.lender batch).messagesOnly t ∧ t.tellsFailed opened))

/-- The state in which a sound wheel in a slot has settled the standing records of its group (R168). -/
def State.settled (s : State) (slot : Fin 8) (group : Option Nat) : State :=
  let records := s.sister.standing.filter fun r => some r.group == group
  { s with
    sister := { s.sister with
      standing := s.sister.standing.filter fun r => some r.group != group
      opList := s.sister.opList.map fun e =>
        if e.op ∈ records.flatMap Standing.pairs then { e with slot := slot, status := .active } else e } }

/-- LOCAL names the pairs still listed of a standing record that a sound wheel in a slot has settled, with the two slots
(R168, R171; log entries 38 and 53). -/
def State.tellsSettled (t : State) (slot : Fin 8) (r : Standing) (entries : List OpEntry) : Prop :=
  t.tellsNotice (.swapNotice
    { kind := .local, group := some r.group, slot := some slot, slot2 := if r.slot = slot then none else some r.slot
      peer := none, moved := (entries.filter fun e => decide (e.op ∈ r.pairs)).map OpEntry.op, dropped := [] })

/-- The entry that a lent operation comes home as (R150). -/
def State.homeEntry (s : State) (e : LentEntry) : OpEntry :=
  { op := e.op, cls := e.cls, slot := (s.homePlace e.group).1, lender := none, status := (s.homePlace e.group).2
    mark := none }

/-! ## Samples and frames -/

/-- A journal with a sample in its counts and peaks, and in its crash run (R44, R50). -/
def Journal.sampled (j : Journal) (aeCrash : Nat) (x : Sample) : Journal :=
  { j with
    samples := min (j.samples + 1) 65535
    heldCount := if x.held then min (j.heldCount + 1) 65535 else j.heldCount
    peakP := max j.peakP x.p, peakA := max j.peakA x.a
    crashRun := if aeCrash ≤ x.a then j.crashRun + 1 else 0 }

/-- A journal with a power in its energy, once it has reached contact (R55). -/
def Journal.summed (j : Journal) (p : Nat) : Journal :=
  { j with energy := if j.contacted then min (j.energy + (p - j.idlePower.getD 0)) 4294967295 else j.energy }

/-- A journal after a sample in ARMED that declares no contact: the sample moves the contact run, tested against the baseline
as it stood, and then joins the baseline, the floor of the mean of the last 64 (R34, R35, R44). -/
def Journal.waited (j : Journal) (c : Figures) (x : Sample) : Journal :=
  let contact := j.idlePower.any fun idle => decide (idle + c.contactMargin ≤ x.p)
  let window := (j.window ++ [x.p]).drop (j.window.length + 1 - 64)
  { j.sampled c.aeCrash x with
    window := window, samplesArmed := j.samplesArmed + 1, idlePower := some (window.sum / window.length)
    contactRun := if contact then j.contactRun + 1 else 0
    candidate := if contact then (if j.contactRun = 0 then some x.position else j.candidate) else none
    runPowers := if contact then j.runPowers ++ [x.p] else [] }

/-- A journal that has reached a hold-class verdict: a contact run not yet declared is discarded, and all else of it stands
(R36, R53). -/
def Journal.heldOn (j : Journal) (v : HoldVerdict) : Journal :=
  { j with
    verdict := some v, contactRun := if j.contacted then j.contactRun else 0
    candidate := if j.contacted then j.candidate else none, runPowers := if j.contacted then j.runPowers else [] }

/-- The k lowest bits of a number, most significant first. -/
def numberBits : Nat → Nat → List Bool
  | 0, _ => []
  | k + 1, n => n.testBit k :: numberBits k n

/-- A word of a sensor frame: a 3-bit channel number, a 12-bit value and a bit that makes the ones odd (R30). -/
def sensorWord (place value : Nat) : List Bool :=
  let data := numberBits 3 place ++ numberBits 12 value
  data ++ [data.countP id % 2 == 0]

/-- The 64 bits of the sensor frame of four values (R30). -/
def sensorBits (v : PerHead Reading) : List Bool :=
  sensorWord 0 v.w0.p ++ sensorWord 1 v.w0.a ++ sensorWord 2 v.w1.p ++ sensorWord 3 v.w1.a

/-- The rising edges of SFR_CLK that bring 64 bits, SFR_SYNC high at the first of them (R30). -/
def frameEdges : List Bool → List (Bool × Bool)
  | [] => []
  | b :: rest => (true, b) :: rest.map fun x => (false, x)

/-- The station hears a frame with these contents from another station: it is configured and not sending itself, every
line that began a copy of the frame has ended it, and the copy selected is GOOD, carries another station's number and
reads as this frame (R135). -/
def State.hears (s : State) (a b : LineCopy) (station : Nat) (body : FrameBody) : Prop :=
  s.station ≠ .unconfigured ∧ s.link.isSending = false ∧ station ≠ s.figures.station ∧
    ∃ x y c, s.link.frameEnds a b = some (x, y) ∧ s.link.select x y = some c ∧ c.station = station ∧
      readFrame c.kind c.payload = some body

/-- A frame as it joins the transmit queue (R128). -/
def FrameBody.fresh (body : FrameBody) : QueuedFrame := { body := body, attempts := 0, sending := false }

/-- From `s` to `t` a frame has been offered to the transmit queue and no other: it waits behind the rest, or with all 8
places held it is discarded and QUEUE_FULL tells its kind (R128, R129). -/
def offersFrame (s t : State) (body : FrameBody) : Prop :=
  (s.link.framesHeld < 8 → t.link.frames = s.link.frames ++ [body.fresh]) ∧
  (8 ≤ s.link.framesHeld → t.link.frames = s.link.frames ∧ t.tellsNotice (.linkNotice (.queueFull body.kind)))

/-- The sister unit of `t` is this one, but for the peer view, which hears of every frame, and the offer of a STATUS that was
due (R145, R146). -/
def Sister.heardAs (x : Sister) (t : State) : Prop :=
  t.sister = { x with
    peers := t.sister.peers, viewFull := t.sister.viewFull, mark := t.sister.mark, period := t.sister.period }

/-- The nine commands of a frame taken from the copies on the two lines. -/
def takenFrames (a b : LineCopy) : List Instr :=
  [.statusReceived a b, .callReceived a b, .offerReceived a b, .awardReceived a b, .takenReceived a b
  , .declineReceived a b, .releaseReceived a b, .frameDropped a b, .duplicateStation a b]

/-- A line after a frame taken, from which copies were GOOD (R137, R138); its receiver goes on as
it was. -/
def Line.afterFrame (l : Line) (good otherGood otherUp : Bool) : Line :=
  let bad := if good then 0 else if otherGood then min (l.bad + 1) 16 else l.bad
  let run := if good then min (l.good + 1) 64 else if otherGood then 0 else l.good
  if l.up = true ∧ good = false ∧ otherGood = true ∧ otherUp = true ∧ bad = 16 then
    { up := false, bad := bad, good := run, looking := l.looking }
  else if l.up = false ∧ run = 64 then { up := true, bad := 0, good := run, looking := l.looking }
  else { up := l.up, bad := bad, good := run, looking := l.looking }

/-- A number fits a field of k bits. -/
def fitsBits (k n : Nat) : Prop := n < 2 ^ k

/-- A pair's numbers are ones a pair byte holds (section 11.8). -/
def Op.fits (op : Op) : Prop := op.variant < 16 ∧ op.journal < 16

/-- A life fits a signed field of four bytes (section 11.8). -/
def lifeFits (life : Int) : Prop := -2147483648 ≤ life ∧ life ≤ 2147483647

/-- A station number stands in a station byte (section 11.8). -/
def stationFits (station : Option Nat) : Prop := ∀ n, station = some n → 1 ≤ n ∧ n ≤ 255

/-- The contents of a frame fit its fields (Table 11-9). -/
def FrameBody.fits : FrameBody → Prop
  | .status b =>
    fitsBits 16 b.period ∧ fitsBits 8 b.free ∧ b.tools.length ≤ 8 ∧ b.held.length ≤ 24 ∧ b.reclaim.length ≤ 8 ∧
      (∀ t ∈ b.tools, fitsBits 8 t.group ∧ fitsBits 8 t.state ∧ lifeFits t.life) ∧
      (∀ e ∈ b.held, e.op.fits ∧ fitsBits 8 e.lender) ∧ ∀ g ∈ b.reclaim, fitsBits 8 g
  | .call c =>
    fitsBits 8 c.group ∧ fitsBits 16 c.window ∧ fitsBits 8 c.needPlaces ∧ fitsBits 32 c.needLife ∧
      1 ≤ c.ops.length ∧ c.ops.length ≤ 12 ∧ ∀ o ∈ c.ops, o.op.fits ∧ stationFits o.lender
  | .offer o =>
    fitsBits 8 o.caller ∧ fitsBits 8 o.group ∧ lifeFits o.life ∧ fitsBits 8 o.freeAfter ∧
      fitsBits 8 o.slot ∧ fitsBits 8 o.toolState ∧ fitsBits 8 o.opsCount
  | .award _ group winner => fitsBits 8 group ∧ stationFits winner
  | .taken caller _ => fitsBits 8 caller
  | .decline station _ reason => fitsBits 8 station ∧ reason = declineReason reason.byte
  | .release lender ops => fitsBits 8 lender ∧ 1 ≤ ops.length ∧ ops.length ≤ 24 ∧ ∀ op ∈ ops, op.fits

/-- The contents of an envelope fit a flash record, with M as Table 5-3 accepts it. -/
def Envelope.fits (e : Envelope) : Prop :=
  4 ≤ e.m ∧ e.m ≤ 16 ∧ fitsBits 16 e.step ∧ fitsBits 32 e.eRef ∧
    ∀ b ∈ e.points.toList, fitsBits 12 b.lower ∧ fitsBits 12 b.upper

/-! ## Bounds -/

/-- The queues hold no more than their places: inbound 4, outbound 16 with at most 12 records, transmit 8 frames
(R128, R175, R183); and a message waits inbound only while the outbound queue is full (R175). -/
def State.queuesBounded (s : State) : Prop :=
  s.port.inbound.length ≤ 4 ∧ s.port.outbound.length ≤ 16 ∧ s.port.records ≤ 12 ∧ s.link.framesHeld ≤ 8 ∧
    s.inboundServed

/-- A message can only be being sent while it stands at the head of the outbound queue (R174). -/
def State.sendingHead (s : State) : Prop := s.port.sending = true → s.port.outbound ≠ []

/-- At most one TOOL NOTICE of a slot stands in the outbound queue, and one is pending for a slot only while that
slot's TOOL NOTICE is being sent (R182). -/
def State.noticesSound (s : State) : Prop :=
  ∀ slot, s.port.outbound.countP (OutMsg.isToolNoticeFor slot) ≤ 1 ∧
    ∀ n, s.port.pendingNotices.get slot = some n →
      n.slot = slot ∧ s.port.beingSent.any (OutMsg.isToolNoticeFor slot) = true

/-- The two lines are never DOWN together (R137). -/
def State.lineUp (s : State) : Prop := s.link.lines.a.up = true ∨ s.link.lines.b.up = true

/-- The remaining life of every mounted tool lies between −A and F (R12), A being the overrun allowance of the
configuration in force, and no tool is mounted in UNCONFIGURED (R4, R21). -/
def State.lifeSound (s : State) : Prop :=
  (∀ slot t, s.tools.get slot = some t → -(s.figures.overrunAllowance : Int) ≤ t.life ∧ t.life ≤ t.full) ∧
    (s.station = .unconfigured → ∀ slot, s.tools.get slot = none)

/-- The fetch queue as R83 and R84 keep it: at most 4 requests, no key twice, demands ahead of prefetches, and no
key that is resident. -/
def Store.queueSound (x : Store) : Prop :=
  x.queue.length ≤ 4 ∧ (x.queue.map FetchRequest.key).Nodup ∧
    (x.queue.Pairwise fun r k => k.kind = .demand → r.kind = .demand) ∧ ∀ r ∈ x.queue, x.resident r.key = none

/-- The open hand-offs as R154, R157, R160, R161 and R167 keep them: one for a group, in rounds 1 to 3, with at most 12
operations and 8 offers, and an earlier tag for each earlier round: just those while the trigger is WEAR, and up to
three more after an escalation. -/
def Sister.handOffsSound (x : Sister) : Prop :=
  (x.handOffs.map HandOff.group).Nodup ∧
    ∀ h ∈ x.handOffs, 1 ≤ h.round ∧ h.round ≤ 3 ∧ h.batch.length ≤ 12 ∧ h.offers.length ≤ 8 ∧
      h.earlier.length ≤ h.round + 2 ∧ (h.trigger = .wear → h.earlier.length + 1 = h.round)

end Sys2Proof.Machine
end

