-- ==== Sys2Proof/WellFormed.lean ====
section
/-! DEFINITION. The checks a command's operands meet when its event is one the spec describes. `exec` is total, so an
ill-formed command has a meaning too; the checks say which commands the interfaces can bring. -/

namespace Sys2Proof

/-- A receiver's copy is no longer than the longest frame after its opening pattern: 2 header bytes, 120 payload
bytes and 2 CRC bytes (R126). -/
def copyFits : LineCopy → Bool
  | none => true
  | some cells => cells.length ≤ 8 * 124

/-- A frame is taken only when at least one line began a copy of it (R135). -/
def copiesFit (a b : LineCopy) : Bool :=
  (a.isSome || b.isSome) && copyFits a && copyFits b

/-- The operands are ones the block's interfaces can bring. -/
def wellFormed : Instr → Bool
  | .configure figures => figures.length ≤ 50
  | .unknownRequestCode message =>
    decide (1 ≤ message.length) && decide (message.length ≤ 255) && (decodeRequest message).isNone
  | .fetchReadEnd bytes => bytes.length == 204
  | .writeEnd readBack => readBack.length == 204
  | .statusReceived a b | .callReceived a b | .offerReceived a b | .awardReceived a b | .takenReceived a b
  | .declineReceived a b | .releaseReceived a b | .frameDropped a b | .duplicateStation a b => copiesFit a b
  | .peerStale station | .peerRemoved station => decide (1 ≤ station) && decide (station ≤ 16)
  | .windowExpiry group | .awardTimerExpiry group => decide (1 ≤ group) && decide (group ≤ 31)
  | .start | .restart | .mount _ _ _ _ _ _ _ | .dismount _ | .assign _ _ _ _ _ _ _ | .unassign _ _
  | .partBegin _ | .partEnd | .journalBegin _ _ | .journalEnd _ | .dressBegin _ | .dressEnd _ _
  | .holdRelease _ | .teach _ _ _ _ _ | .queryTool _ | .queryStation | .transactionStart | .transactionEnd _
  | .outboundMessageSent | .fullReset _ _ _ | .quadratureTransition _ _ | .sensorFrame _ | .sampleInstant
  | .overlongExpiry _ | .dressOverlongExpiry _ | .writeStatusTimeout | .frameBegin _ | .sendingComplete
  | .collision _ | .silenceTimerExpiry | .statusPeriodExpiry | .statusChangeOffer | .reservationExpiry _
  | .lineEdge _ _ => true

end Sys2Proof
end

