-- ==== Sys2Proof/Certificates/Slice0/Obligations.lean ====
section
/-! DEFINITION. The statements for the provers. Each docstring names the rules a statement formalises; a statement that rests
on a choice of the model names its log entry. -/

open Sys2Proof Sys2Proof.Machine

/-! ## The block as a whole -/

/-- A step takes the command at the front of the queue of waiting commands and runs it on the state with the rest of the
queue; with none waiting the block idles (log entry 10, the model's choice). -/
def Obligations.StepRunsFrontCommand : Prop :=
  (∀ (c : Instr) (rest : List Instr) (s : State), step { s with pending := c :: rest } = exec c { s with pending := rest }) ∧
    ∀ s : State, s.pending = [] → step s = .next s

/-- A full reset puts every block at its full-reset values, with the input levels it finds (R21, R38, R62, R94, R107,
R124, R141, R153, R172, R180), and so does the state after reset (input levels by log entry 1; the queue of commands
and the counter of free values are the model's own, log entry 25). -/
def Obligations.FullResetClears : Prop :=
  ∀ (pair0 pair1 : PhasePair) (low : Bool) (s : State), ∃ t,
    exec (.fullReset pair0 pair1 low) s = .next t ∧
    t.station = .unconfigured ∧ t.config = none ∧ (∀ slot, t.tools.get slot = none) ∧
    (∀ n, (t.counters.get n).count = 0 ∧ (t.counters.get n).fault = false ∧
      (t.counters.get n).pair = (match n with | .w0 => pair0 | .w1 => pair1) ∧
      (t.counters.get n).contact = none ∧ (t.counters.get n).contactPrior = none ∧
      (t.counters.get n).dressContact = none ∧ (t.counters.get n).dressEnd = none ∧
      (t.counters.get n).journalEnd = none) ∧
    t.sampler = { partialFrame := none, pendingFrame := none, latest := ⟨⟨0, 0⟩, ⟨0, 0⟩⟩, missing := 0
                  lost := ⟨false, false⟩, previous := ⟨0, 0⟩ } ∧
    (∀ n, (t.channels.get n).state = .idle ∧ (t.channels.get n).teach = none) ∧
    (∀ slot, t.store.slots.get slot = .empty) ∧ t.store.lru = [] ∧ t.store.queue = [] ∧ t.store.badKeys = 0 ∧
    t.store.port = .idle ∧ t.store.pendingWrites = [] ∧
    t.sister.opList = [] ∧ t.sister.lent = [] ∧ t.sister.part = none ∧
    (∀ slot, t.sister.reservations.get slot = none) ∧ t.sister.handOffs = [] ∧ t.sister.standing = [] ∧
    t.sister.triggers = [] ∧ t.sister.log = [] ∧ t.sister.tag = 0 ∧ t.sister.peers = [] ∧
    t.sister.viewFull = false ∧ t.sister.mark = false ∧ t.sister.lastSent = none ∧ t.sister.period = none ∧
    t.link.queue = [] ∧ (∀ l, (t.link.lines.get l).up = true ∧ (t.link.lines.get l).bad = 0 ∧
      (t.link.lines.get l).good = 0 ∧ (t.link.lines.get l).looking = false) ∧ t.link.begun = [] ∧
    t.link.silence = none ∧ t.link.silent = false ∧ t.link.duplicate = false ∧
    t.port.inbound = [] ∧ t.port.outbound = [] ∧ t.port.sending = false ∧
    (∀ slot, t.port.pendingNotices.get slot = none) ∧ t.port.inboundLost = false ∧ t.port.recordsLost = false ∧
    t.port.noticesLost = false ∧ t.port.select = (if low then .ignored else .high) ∧
    (∀ n, t.holdAsserted n = true) ∧ t.alertLow = false ∧ t.noteLow = false ∧ t.driversEnabled = false ∧
    t.pending = s.pending ∧
    (pair0 = ⟨false, false⟩ → pair1 = ⟨false, false⟩ → low = false →
      t = { State.reset with pending := s.pending, freeDraws := s.freeDraws })

/-- The state after reset meets every invariant stated below. -/
def Obligations.InvariantsHoldAtReset : Prop :=
  State.reset.queuesBounded ∧ State.reset.sendingHead ∧ State.reset.noticesSound ∧ State.reset.lifeSound ∧
    State.reset.lineUp ∧ State.reset.store.queueSound ∧ State.reset.sister.handOffsSound

/-- No command stops the block, and none touches the queue of commands that wait (log entries 10 and 14, the model's
choices). -/
def Obligations.EveryCommandAnswersNext : Prop :=
  ∀ (i : Instr) (s : State), ∃ t, exec i s = .next t ∧ t.pending = s.pending

/-! ## The station (chapter 11) -/

/-- An accepted CONFIGURE takes its figures and enters CONFIGURED, starts the silence timer and is answered with the
clamped figure numbers; nothing else changes. Outside UNCONFIGURED it is refused WRONG_STATE, and a list that fails a
check is refused BAD_VALUE with nothing taken (R139, R177). -/
def Obligations.ConfigureEntersConfigured : Prop :=
  ∀ (figures : List (Byte × BitVec 32)) (s : State), s.takesNow (.configure figures) = true →
    (s.station ≠ .unconfigured →
      exec (.configure figures) s = .next (s.answered 0x01 (.refused .wrongState))) ∧
    (s.station = .unconfigured →
      (figuresFit figures →
        exec (.configure figures) s = .next
          ({ s with
              station := .configured
              config := some (takeFigures figures)
              link := { s.link with
                silence := some (s.clock + 2 * (3 * (takeFigures figures).statusPeriod)) } }.answered 0x01
            (.accepted (.clamped (clampedFigures figures))))) ∧
      (¬ figuresFit figures → exec (.configure figures) s = .next (s.answered 0x01 (.refused .badValue))))

/-- The configuration a fit figure list gives holds, for each figure number, the listed value clamped to the nearer end
of its range, a link_rate as Table 8-1 takes it, or the default where none is listed; the clamped numbers are those
whose value in force differs from the listed one (R177, Tables 8-1 and 11-8). -/
def Obligations.ConfigurationHoldsFigures : Prop :=
  ∀ figures : List (Byte × BitVec 32), figuresFit figures →
    ∀ (k : Nat) (r : FigureRange), figureRanges[k]? = some r →
      (takeFigures figures).values[k]? =
        some (match listedFigure figures (k + 1) with
          | none => r.default
          | some v =>
            if k + 1 = 2 then (if v < 500 then 250 else if v < 1000 then 500 else 1000)
            else max r.lo (min v r.hi)) ∧
      (k + 1 ∈ clampedFigures figures ↔
        ∃ v, listedFigure figures (k + 1) = some v ∧ (takeFigures figures).values[k]? ≠ some v)

/-- START in CONFIGURED enters RUNNING with the status-changed mark set, and is answered ACCEPTED; with the transmit
queue empty and no STATUS sent yet a STATUS is offered at once. In any other state it is refused WRONG_STATE and the
station state stands (R145, R178). -/
def Obligations.StartEntersRunning : Prop :=
  ∀ s : State, s.takesNow .start = true →
    (s.station = .configured → ∃ t, exec .start s = .next t ∧
      ({ s with station := .running, sister := { s.sister with mark := true } }.answered 0x02
        (.accepted .plain)).statusOnly t ∧
      (s.link.queue = [] → s.sister.lastSent = none →
        t.link.queue = [{ body := .status s.statusBody, attempts := 0, sending := false }] ∧ t.sister.mark = false ∧
        t.sister.period = some (s.clock + 2 * s.figures.statusPeriod))) ∧
    (s.station ≠ .configured → ∃ t, exec .start s = .next t ∧
      (s.answered 0x02 (.refused .wrongState)).statusOnly t)

/-- RESTART in CONFIGURED and RUNNING enters CONFIGURED and brings each block to its RESTART values: the configuration,
the tools, the counts with their fault flags, the sampler, the envelope slots with the LRU order, the bad keys and the
pending writes, the unmarked operations, the lent list, the tag counter, the lines and the timer of silence are kept;
captures, channels, teach buffers, fetch queue, part, hand-off state, peer view, transmit queue and both queues of the
port are cleared. A frame being sent stops, with which the quiet time is 0, the copies under way continue, and the bytes
of the transaction in progress go on being clocked out. Its REPLY stands first, followed by one OPS_BACK notice for each
marked entry, of which the last 15 stay. In UNCONFIGURED it is refused (R38, R62, R94, R107, R124, R141, R153, R172, R179;
that a RESTART in ARMED makes the contact captures absent too is the model's reading of R38 against R36, log entry 39, and
so are that a sending it stops counts as the last edge, that the bytes already in the shifter stay and the form of the
OPS_BACK notices, log entry 15). -/
def Obligations.RestartKeepsAndClears : Prop :=
  ∀ s : State, s.takesNow .restart = true →
    (s.station = .unconfigured → exec .restart s = .next (s.answered 0x03 (.refused .wrongState))) ∧
    (s.station ≠ .unconfigured → ∃ t, exec .restart s = .next t ∧
      t.station = .configured ∧ t.config = s.config ∧ t.tools = s.tools ∧ t.sampler = s.sampler ∧ t.clock = s.clock ∧
      t.freeDraws = s.freeDraws ∧ t.pending = s.pending ∧
      (∀ n, t.counters.get n =
        { s.counters.get n with
          contact := none, contactPrior := none, dressContact := none, dressEnd := none, journalEnd := none }) ∧
      (∀ n, (t.channels.get n).activity = .idle ∧ (t.channels.get n).teach = none) ∧
      t.store.slots = s.store.slots ∧ t.store.lru = s.store.lru ∧ t.store.badKeys = s.store.badKeys ∧
      t.store.pendingWrites = s.store.pendingWrites ∧ t.store.queue = [] ∧ t.store.port.view = s.store.port.view ∧
      t.sister =
        { opList := (s.sister.opList.filter fun e => e.mark.isNone).map fun e =>
            if e.status = .handing then { e with status := .active } else e
          lent := s.sister.lent, part := none, reservations := Vector.replicate 8 none, handOffs := [], standing := []
          triggers := [], log := [], tag := s.sister.tag, peers := [], viewFull := false, mark := true
          lastSent := none, period := none } ∧
      t.link = { s.link with queue := [], quietTime := if s.link.isSending then 0 else s.link.quietTime } ∧
      t.port.select = s.port.select ∧ t.port.shifter = s.port.shifter ∧
      t.port.inbound = [] ∧ t.port.sending = false ∧ (∀ slot, t.port.pendingNotices.get slot = none) ∧
      t.port.inboundLost = false ∧ t.port.recordsLost = false ∧
      let notices := (s.sister.opList.filter fun e => e.mark.isSome).map fun e => OutMsg.swapNotice
        { kind := .opsBack, group := s.groupOfSlot e.slot, slot := some e.slot, slot2 := none, peer := e.lender
          moved := [e.op], dropped := [] }
      t.port.outbound = .reply 0x03 (.accepted .plain) :: notices.drop (notices.length - 15) ∧
      (t.port.noticesLost = true ↔ 15 < notices.length))

/-- A QUERY TOOL is answered with the slot's record as it stands, and a slot outside 0-7 is refused BAD_VALUE (R20); a
message that decodes to no request is refused BAD_VALUE under its own code (R175). Nothing else changes. -/
def Obligations.QueryToolAndUnknownAnswer : Prop :=
  (∀ (slot : Byte) (k : Fin 8) (s : State), s.takesNow (.queryTool slot) = true → slot.toNat = k.val →
    exec (.queryTool slot) s = .next (s.answered 0x10
      (.accepted (.tool (s.noticeOf k) ((s.tools.get k).map Tool.detail))))) ∧
  (∀ (slot : Byte) (s : State), s.takesNow (.queryTool slot) = true → 8 ≤ slot.toNat →
    exec (.queryTool slot) s = .next (s.answered 0x10 (.refused .badValue))) ∧
  ∀ (code : Byte) (payload : List Byte) (s : State), decodeRequest (code :: payload) = none →
    s.takesNow (.unknownRequestCode (code :: payload)) = true →
    exec (.unknownRequestCode (code :: payload)) s = .next (s.answered code (.refused .badValue))

/-- A QUERY STATION is answered with one snapshot read as the request is handled, then every sticky flag is cleared;
nothing else changes (R184; how a time left or an age is rounded, log entry 32, and in which order item 11 lists what it
holds, log entry 33, are the model's choices). -/
def Obligations.QueryStationReportsAndClears : Prop :=
  ∀ s : State, s.takesNow .queryStation = true →
    exec .queryStation s = .next
      ({ s with
          port := { s.port with inboundLost := false, recordsLost := false, noticesLost := false }
          link := { s.link with duplicate := false }
          counters := ⟨{ s.counters.w0 with fault := false }, { s.counters.w1 with fault := false }⟩ }.answered 0x11
        (.accepted (.station s.taking.snapshot)))

/-! ## The machine port (chapter 11) -/

/-- Every request that is taken as it comes is answered with exactly one REPLY under its own code, behind every REPLY that
waits; an accepted RESTART empties the queue first (R179, R181, R183). While one waits to be taken, a further request only
joins the inbound queue, and with nothing inbound no other command makes a REPLY, and none but the end of a sending, a
transaction's end and a reset takes one away (that a request command is the arrival of its message, and that a message waits
only while the outbound queue is full, are the model's choices, log entry 2). -/
def Obligations.RequestsAnsweredOnce : Prop :=
  (∀ (i : Instr) (m : List Byte) (s t : State), wellFormed i = true → encodeRequest i = some m →
    s.takesNow i = true → exec i s = .next t → ∃ answer,
      t.replies = (if i = .restart ∧ s.station ≠ .unconfigured then [] else s.replies) ++
        [.reply (m.headD 0) answer]) ∧
  ∀ (i : Instr) (s t : State), s.inboundServed → (∀ m, encodeRequest i = some m → s.takesNow i = false) →
    exec i s = .next t →
    t.replies = s.replies ∨ (∃ bits, i = .transactionEnd bits ∧ s.incoming i ≠ []) ∨
      (i = .outboundMessageSent ∧ s.port.inbound ≠ []) ∨
      t.replies.length ≤ s.replies.length ∧
        (i = .outboundMessageSent ∨ (∃ bits, i = .transactionEnd bits) ∨ ∃ p q low, i = .fullReset p q low)

/-- At the fall of MCS_N the head of the outbound queue becomes the message being sent; MSO then gives its bytes, most
significant bit first, and zeros after the last or with an empty queue. At its last bit it leaves, a TOOL NOTICE that
waits behind it joining the back, and a message that waits inbound for the place is taken and handled as its request;
nothing else changes (R173, R174, R175, R182). The bytes of the message are those of the layout (section 11.8), the
unstated ones drawn free (log entry 6), and those of a group byte without a group and of a TEACH reply are the model's
(log entries 8 and 29); that a request command finds its message waiting as a taken one does is log entry 2, the model's
choice. -/
def Obligations.OutboundMessageIsSent : Prop :=
  (∀ (m : OutMsg) (rest : List OutMsg) (s : State), s.port.select = .high → s.port.outbound = m :: rest → ∃ t,
    exec .transactionStart s = .next t ∧
    t = { s with
      port := { s.port with select := .low, sending := true, shifter := fill s.freeDraws m.layout }
      freeDraws := s.freeDraws + Layout.draws m.layout } ∧
    ∀ k, t.port.mso k = some (((fill s.freeDraws m.layout).flatMap byteBits).getD k false)) ∧
  (∀ s : State, s.port.select = .high → s.port.outbound = [] → ∃ t,
    exec .transactionStart s = .next t ∧ t = { s with port := { s.port with select := .low, shifter := [] } } ∧
    ∀ k, t.port.mso k = some false) ∧
  (∀ (m : OutMsg) (rest : List OutMsg) (s : State), s.port.sending = true → s.port.outbound = m :: rest →
    (∀ slot, m.isToolNoticeFor slot = true → s.port.pendingNotices.get slot = none) →
    (s.port.inbound = [] → exec .outboundMessageSent s = .next
      { s with port := { s.port with outbound := rest, sending := false, shifter := [] } }) ∧
    ∀ message others, s.port.inbound = message :: others → s.port.outbound.length = 16 →
      let gone := { s with port := { s.port with outbound := rest, sending := false, shifter := [] } }
      (∀ i, decodeRequest message = some i → exec .outboundMessageSent s = .next (gone.taking.handleRequest i)) ∧
      (decodeRequest message = none →
        exec .outboundMessageSent s = .next (gone.answered (message.headD 0) (.refused .badValue))) ∧
      ∀ i, encodeRequest i = some message → message ≠ [] → others = [] →
        exec i gone.taking = exec .outboundMessageSent s) ∧
  ∀ (m : OutMsg) (rest : List OutMsg) (slot : Fin 8) (n : ToolNotice) (s : State), s.port.sending = true →
    s.port.outbound = m :: rest → m.isToolNoticeFor slot = true → s.port.pendingNotices.get slot = some n →
    s.port.inbound = [] ∨ s.port.outbound.length = 16 →
    exec .outboundMessageSent s = .next
      { s with
        port := { s.port with
          outbound := rest ++ [.toolNotice n], sending := false, shifter := []
          pendingNotices := s.port.pendingNotices.set slot none } }

/-- At the rise of MCS_N a complete message arrives at the inbound queue, and an incomplete one is discarded without a
trace. With either, a message being sent whose last bit the clocks have reached leaves as at OUTBOUND_MESSAGE_SENT; one
cut short keeps its place, but for a TOOL NOTICE with a newer one pending, which gives way to it. A message that arrives
is taken at once when none waits and the outbound queue has room; with that queue full it joins the inbound queue, which
holds 4, and is discarded with INBOUND_LOST beyond them. The rise after a full reset that found MCS_N low only ends the
wait for it: what was clocked is ignored. Nothing else changes (R173, R174, R175, R180, R182; that a request command is
the arrival of its message is log entry 2, the model's choice, and so is that the message being sent is settled before the
one that arrives, log entry 54). -/
def Obligations.TransactionEndOffersMessage : Prop :=
  (∀ (length : Byte) (message : List Byte) (tail : List Bool) (s : State), s.port.select = .low →
    message.length = length.toNat → message ≠ [] →
    let bits := (length :: message).flatMap byteBits ++ tail
    (s.port.sending = false →
      exec (.transactionEnd bits) s = .next
        ({ s with port := { s.port with select := .high, shifter := [] } }.arrive message)) ∧
    (s.port.sending = true → bits.length < 8 * s.port.shifter.length →
      ((∀ m slot, s.port.outbound.head? = some m → m.isToolNoticeFor slot = true →
          s.port.pendingNotices.get slot = none) →
        exec (.transactionEnd bits) s = .next
          ({ s with port := { s.port with select := .high, sending := false, shifter := [] } }.arrive message)) ∧
      ∀ m rest slot n, s.port.outbound = m :: rest → m.isToolNoticeFor slot = true →
        s.port.pendingNotices.get slot = some n →
        exec (.transactionEnd bits) s = .next
          ({ s with
              port := { s.port with
                select := .high, sending := false, shifter := [], outbound := rest ++ [OutMsg.toolNotice n]
                pendingNotices := s.port.pendingNotices.set slot none } }.arrive message)) ∧
    (s.port.sending = true → 8 * s.port.shifter.length ≤ bits.length → ∃ u, exec .outboundMessageSent s = .next u ∧
      exec (.transactionEnd bits) s = .next
        ({ u with port := { u.port with select := .high, shifter := [] } }.arrive message))) ∧
  (∀ (length : Byte) (bits : List Bool) (s : State), s.port.select = .low →
    (bits.length < 8 ∨
      ∃ tail, bits = byteBits length ++ tail ∧ (length = 0 ∨ tail.length < 8 * length.toNat)) →
    (s.port.sending = false →
      exec (.transactionEnd bits) s = .next { s with port := { s.port with select := .high, shifter := [] } }) ∧
    (s.port.sending = true → bits.length < 8 * s.port.shifter.length →
      ((∀ m slot, s.port.outbound.head? = some m → m.isToolNoticeFor slot = true →
          s.port.pendingNotices.get slot = none) →
        exec (.transactionEnd bits) s = .next
          { s with port := { s.port with select := .high, sending := false, shifter := [] } }) ∧
      ∀ m rest slot n, s.port.outbound = m :: rest → m.isToolNoticeFor slot = true →
        s.port.pendingNotices.get slot = some n →
        exec (.transactionEnd bits) s = .next
          { s with
            port := { s.port with
              select := .high, sending := false, shifter := [], outbound := rest ++ [OutMsg.toolNotice n]
              pendingNotices := s.port.pendingNotices.set slot none } }) ∧
    (s.port.sending = true → 8 * s.port.shifter.length ≤ bits.length → ∃ u, exec .outboundMessageSent s = .next u ∧
      exec (.transactionEnd bits) s = .next { u with port := { u.port with select := .high, shifter := [] } })) ∧
  (∀ (bits : List Bool) (s : State), s.port.select = .ignored →
    exec (.transactionEnd bits) s = .next { s with port := { s.port with select := .high } }) ∧
  ∀ (message : List Byte) (s : State), message ≠ [] →
    (∀ i, encodeRequest i = some message → exec i s = .next (s.arrive message)) ∧
    (16 ≤ s.port.outbound.length →
      (s.port.inbound.length < 4 →
        s.arrive message = { s with port := { s.port with inbound := s.port.inbound ++ [message] } }) ∧
      (4 ≤ s.port.inbound.length → s.arrive message = { s with port := { s.port with inboundLost := true } })) ∧
    (s.port.inbound = [] → s.port.outbound.length < 16 →
      (∀ i, decodeRequest message = some i → s.arrive message = s.handleRequest i) ∧
      (decodeRequest message = none →
        s.arrive message = s.answered (message.headD 0) (.refused .badValue)))

/-- The queues never hold more than their places (inbound 4, outbound 16 with at most 12 records, transmit 8 frames), a
message waits inbound only while the outbound queue is full, and a message being sent stands at the head of that queue, in
every state that a step reaches from one where this holds (R128, R174, R175, R183; that a message does not wait on a queue
with room is log entry 2, read from R175). -/
def Obligations.QueuesKeepTheirBounds : Prop :=
  ∀ s t : State, s.queuesBounded → s.sendingHead → step s = .next t → t.queuesBounded ∧ t.sendingHead

/-- At most one TOOL NOTICE of a slot stands in the outbound queue, and one is pending for a slot only while that slot's
TOOL NOTICE is being sent, in every state that a step reaches from one where this holds (R182, R183). -/
def Obligations.OneToolNoticePerSlot : Prop :=
  ∀ s t : State, s.sendingHead → s.noticesSound → step s = .next t → t.noticesSound

/-- ALERT_N and NOTE_N are low exactly while the outbound queue holds a message whose class is routed to them, and each
message belongs to its class of Table 11-4 (R185). -/
def Obligations.InterruptLinesFollowRouting : Prop :=
  (∀ s : State, (s.alertLow = true ↔ ∃ m ∈ s.port.outbound, s.figures.routing.route m = .alert) ∧
    (s.noteLow = true ↔ ∃ m ∈ s.port.outbound, s.figures.routing.route m = .note)) ∧
  ∀ r : Routing, (∀ code answer, r.route (.reply code answer) = r.reply) ∧
    (∀ g v, g.verdict = .hold v → r.route (.grindRecord g) = r.grindHold) ∧
    (∀ g, (∀ v, g.verdict ≠ .hold v) → r.route (.grindRecord g) = r.grindOther) ∧
    (∀ op reason, r.route (.unwatched op reason) = r.grindOther) ∧
    (∀ d, r.route (.dressRecord d) = r.dressRecord) ∧ (∀ n, r.route (.toolNotice n) = r.toolNotice) ∧
    (∀ d, r.route (.dressDue d) = r.dressDue) ∧ (∀ n, r.route (.swapNotice n) = r.swapNotice) ∧
    (∀ n, r.route (.linkNotice n) = r.linkNotice) ∧ ∀ n, r.route (.storeNotice n) = r.storeNotice

/-! ## The tool table (chapter 1) -/

/-- A MOUNT that passes its checks fills the slot with a record whose full life, remaining life, warning level and state
are those of R3 to R6, tells of the slot and is answered ACCEPTED; no other slot, and nothing but what the reports of R168
and R145 touch, changes, and the sister unit is as the report of the MOUNT leaves it. Otherwise it is refused by the
checks of Table 1-4 in their order, and nothing else changes. The report removes the slot's waiting trigger and cancels an
open hand-off of the slot in the tool's group, which an open hand-off of another group outlives. A sound wheel at a
wheelhead settles every standing record of its group: the pairs still listed are ACTIVE on its slot, each record goes, and
a LOCAL notice tells of it. A WORN or SPENT tool then takes a WEAR trigger. A hand-off cancelled leaves an AWARD with no
winner, its operations ACTIVE on its slot and a LOCAL notice; its marked operations leave where no part is in progress,
and the oldest waiting trigger of the group opens its hand-off (R3 to R6, R145, R166, R168; the order of the report's
three acts is the model's choice, log entries 43 and 47, and so are the two slots of a LOCAL notice for a record, log
entry 38, that the LOCAL notice of a cancelled hand-off names its whole batch, listed still or not, and that of a settled
record the pairs still listed alone, log entry 53, and that marked operations leave with an OPS_BACK each, log entry
16). -/
def Obligations.MountFillsSlot : Prop :=
  (∀ (slot kind position : Byte) (id : BitVec 32) (group : Byte) (full used : BitVec 32) (k : Fin 8) (knd : ToolKind)
    (seat : Seat) (s : State), s.takesNow (.mount slot kind position id group full used) = true →
    s.station ≠ .unconfigured → slot.toNat = k.val → kindOf kind = some knd → seatOf position = some seat →
    seatSuits knd seat = true → group.toNat ≤ 31 → s.tools.get k = none →
    (seat = .rack ∨ s.findTool (fun t => t.seat == seat) = none) →
    ∃ t tool, exec (.mount slot kind position id group full used) s = .next t ∧
      (s.taking.setTool k (some tool)).reportsOnly t ∧ t.repliedLast 0x04 (.accepted .plain) ∧ t.tellsOfSlot k ∧
      ((s.setTool k (some tool)).reportMount k tool).sameSisters t ∧
      tool.kind = knd ∧ tool.seat = seat ∧ tool.id = id ∧
      tool.group = (if group = 0 then none else some group.toNat) ∧
      tool.full = min (max full.toNat 1) 16777215 ∧ tool.life = (tool.full : Int) - (min used.toNat tool.full : Nat) ∧
      tool.warn = tool.full * s.figures.warnPct / 100 ∧
      (tool.life ≤ 0 → tool.state = .spent) ∧ (0 < tool.life → tool.life ≤ tool.warn → tool.state = .worn) ∧
      (tool.warn < tool.life → 0 < tool.life → tool.state = .fresh) ∧ tool.contacts = ⟨none, none, none⟩ ∧
      tool.dressRun = 0 ∧ tool.dressBlocked = false ∧ tool.overrun = false) ∧
  (∀ (slot kind position : Byte) (id : BitVec 32) (group : Byte) (full used : BitVec 32) (s : State),
    let i : Instr := .mount slot kind position id group full used
    s.takesNow i = true →
    (s.station = .unconfigured → s.refusesAndOffers i 0x04 .wrongState) ∧
    (s.station ≠ .unconfigured →
      (8 ≤ slot.toNat ∨ 31 < group.toNat ∨ kindOf kind = none ∨ seatOf position = none ∨
          (∃ knd seat, kindOf kind = some knd ∧ seatOf position = some seat ∧ seatSuits knd seat = false) →
        s.refusesAndOffers i 0x04 .badValue) ∧
      ∀ (k : Fin 8) (knd : ToolKind) (seat : Seat), slot.toNat = k.val → group.toNat ≤ 31 → kindOf kind = some knd →
        seatOf position = some seat → seatSuits knd seat = true →
        (s.tools.get k ≠ none ∨ seat ≠ .rack ∧ s.findTool (fun t => t.seat == seat) ≠ none) →
        s.refusesAndOffers i 0x04 .busy)) ∧
  (∀ (h : HandOff) (s : State), s.cancels (s.cancelHandOff h) h) ∧
  ∀ (slot : Fin 8) (tool : Tool) (s : State),
    let r := { s with sister := { s.sister with triggers := s.sister.triggers.filter fun q => q.slot != slot } }
    let ours (h : HandOff) : Bool := h.slot == slot && some h.group == tool.group
    let sound : Prop := tool.kind = .wheel ∧ (∃ n, tool.seat = .wheelhead n) ∧ (tool.state = .fresh ∨ tool.state = .inService)
    let t := s.reportMount slot tool
    ∃ u, (s.sister.handOffs.find? ours = none → u = r) ∧
      (∀ h, s.sister.handOffs.find? ours = some h → u = r.cancelHandOff h ∧ t.tellsCancelled h) ∧
      (sound → (u.settled slot tool.group).messagesOnly t ∧
        ∀ record ∈ u.sister.standing, some record.group = tool.group → t.tellsSettled slot record u.sister.opList) ∧
      (¬ sound → t = if tool.state = .worn ∨ tool.state = .spent then u.takeTrigger slot tool.group tool.seat .wear else u)

/-- A DISMOUNT that passes its checks leaves the slot VACANT, cancels a teach on the wheelhead of a wheel, tells of the
slot and is answered ACCEPTED; no other slot, and nothing but what the report of R8 touches, changes, and the sister unit
has taken the slot's DISMOUNT trigger. It is refused by the checks of Table 1-5 in their order, a busy channel or a
reservation last with BUSY, and nothing else changes (R7, R8, R155; that the reports follow the rule's steps is the
model's, log entry 17). -/
def Obligations.DismountEmptiesSlot : Prop :=
  (∀ (slot : Byte) (k : Fin 8) (tool : Tool) (s : State), s.takesNow (.dismount slot) = true →
    s.station ≠ .unconfigured → slot.toNat = k.val → s.tools.get k = some tool →
    (s.seatBusy tool.seat = false → s.sister.reservations.get k = none → ∃ t,
      exec (.dismount slot) s = .next t ∧
      ((match tool.seat with
        | .wheelhead n => s.taking.setTeach n none
        | _ => s.taking).setTool k none).reportsOnly t ∧ t.repliedLast 0x05 (.accepted .plain) ∧ t.tellsOfSlot k ∧
      (s.takeTrigger k tool.group tool.seat .dismount).sameSisters t) ∧
    (s.seatBusy tool.seat = true ∨ (s.sister.reservations.get k).isSome = true → ∃ t,
      exec (.dismount slot) s = .next t ∧ (s.answered 0x05 (.refused .busy)).statusOnly t)) ∧
  ∀ (slot : Byte) (s : State), s.takesNow (.dismount slot) = true →
    (s.station = .unconfigured → s.refusesAndOffers (.dismount slot) 0x05 .wrongState) ∧
    (s.station ≠ .unconfigured →
      (8 ≤ slot.toNat → s.refusesAndOffers (.dismount slot) 0x05 .badValue) ∧
      ∀ k : Fin 8, slot.toNat = k.val → s.tools.get k = none → s.refusesAndOffers (.dismount slot) 0x05 .unknownTool)

/-- A charge takes the remaining life down by its amount and no further than the overrun allowance below zero, sets the
overrun flag when it found the life at or below zero, and moves the state forward by the table of R13; it changes
nothing else of the tool. The energy ratio behind a journal's charge is E × 1024 / E_ref, rounded down, or 1024 on
COARSE, under TEACH and with an E_ref of 0, and is then clamped to 512 to 4096 (R10, R12, R13). -/
def Obligations.ChargesFollowEnergy : Prop :=
  (∀ (tool : Tool) (allowance c : Nat), ∃ u, u = tool.charge allowance c ∧
    u = { tool with life := u.life, overrun := u.overrun, state := u.state } ∧
    u.life = max (tool.life - c) (-(allowance : Int)) ∧
    (u.overrun = true ↔ tool.overrun = true ∨ tool.life ≤ 0) ∧
    (tool.state = .broken → u.state = .broken) ∧ (tool.state = .spent → u.state = .spent) ∧
    (tool.state ≠ .broken → u.life ≤ 0 → u.state = .spent) ∧
    (tool.state = .worn → 0 < u.life → u.state = .worn) ∧
    (tool.state = .fresh ∨ tool.state = .inService → 0 < u.life →
      (u.life ≤ tool.warn → u.state = .worn) ∧ ((tool.warn : Int) < u.life → u.state = .inService))) ∧
  ∀ (s : State) (n : Wheelhead) (j : Journal) (overlong : Bool),
    let q := (s.grindRecord n j overlong).q
    512 ≤ q ∧ q ≤ 4096 ∧ (s.grindRecord n j overlong).energy = j.energy ∧
    (j.source = some .coarse ∨ j.source = some .teach ∨ j.source = none → q = 1024) ∧
    ∀ slot env, j.source = some (.envelope slot) → (s.store.slots.get slot).envelope = some env →
      (env.eRef = 0 → q = 1024) ∧
      (env.eRef ≠ 0 → (j.energy * 1024 / env.eRef < 512 → q = 512) ∧ (4096 < j.energy * 1024 / env.eRef → q = 4096) ∧
        (512 ≤ j.energy * 1024 / env.eRef → j.energy * 1024 / env.eRef ≤ 4096 → q = j.energy * 1024 / env.eRef))

/-- The charge of a closed journal is floor((B × q + 512) / 1024) for the base cost B of the class carried by its
operation-list entry, and lies between floor((B × 512 + 512) / 1024) and 4B (R11). -/
def Obligations.JournalChargeRounds : Prop :=
  (∀ (s : State) (n : Wheelhead) (j : Journal) (overlong : Bool),
    let base := s.figures.baseCost j.cls
    let r := s.grindRecord n j overlong
    r.charge = (base * r.q + 512) / 1024 ∧ (base * 512 + 512) / 1024 ≤ r.charge ∧ r.charge ≤ 4 * base ∧
      (1 ≤ base → base ≤ 4095 → 1 ≤ r.charge ∧ r.charge ≤ 16380)) ∧
  (∀ c : Figures, c.baseCost .main = c.bMain ∧ c.baseCost .pin = c.bPin ∧ c.baseCost .endFeature = c.bEnd) ∧
  ∀ (s : State) (n : Wheelhead) (e : OpEntry) (phase : JournalPhase) (j : Journal),
    ((s.arm n e).channels.get n).activity = .journal phase j → j.cls = e.cls

/-- A BROKEN tool stays BROKEN until it is dismounted or the part is fully reset: no step takes it to another state
(R13, R16, R21). A message waits inbound only while the outbound queue is full, which QueuesKeepTheirBounds states. -/
def Obligations.BrokenStaysBroken : Prop :=
  ∀ (s t : State) (k : Fin 8), s.inboundServed → step s = .next t → s.brokenAt k →
    t.brokenAt k ∨ t.tools.get k = none ∧ ∃ i, s.pending.head? = some i ∧
      ((∃ m slot, m ∈ s.incoming i ∧ decodeRequest m = some (.dismount slot) ∧ slot.toNat = k.val) ∨
        ∃ p q low, i = .fullReset p q low)

/-- The remaining life of every mounted tool lies between −A and F, and no tool is mounted in UNCONFIGURED, in every
state that a step reaches from one where this holds (R4, R5, R12, R21). -/
def Obligations.LifeStaysInRange : Prop :=
  ∀ s t : State, s.lifeSound → step s = .next t → t.lifeSound

/-! ## Counters and sampler (chapter 2) -/

/-- A change of one phase counts one up along 00, 10, 11, 01, 00 and one down against it, with the wrap of 32 bits, and
changes nothing else. A change of both leaves the count, sets the fault flag, clears the last contacts of the wheel
there, and takes a journal of that channel not yet HELD to HELD with a BLIND verdict, its contact run discarded if contact had
not been declared and all else of it kept; it changes nothing else but in DRESSING (R17, R22, R23, R29, R36, R52, R53, R66).
That a transition which shows the pair already accepted changes nothing is the model's choice (log entry 14). -/
def Obligations.TransitionsCountOrFault : Prop :=
  ∀ (n : Wheelhead) (s : State),
    exec (.quadratureTransition n (s.counters.get n).pair) s = .next s ∧
    exec (.quadratureTransition n ⟨!(s.counters.get n).pair.b, (s.counters.get n).pair.a⟩) s = .next
      (s.setCounter n { s.counters.get n with
        count := (s.counters.get n).count + 1, pair := ⟨!(s.counters.get n).pair.b, (s.counters.get n).pair.a⟩ }) ∧
    exec (.quadratureTransition n ⟨(s.counters.get n).pair.b, !(s.counters.get n).pair.a⟩) s = .next
      (s.setCounter n { s.counters.get n with
        count := (s.counters.get n).count - 1, pair := ⟨(s.counters.get n).pair.b, !(s.counters.get n).pair.a⟩ }) ∧
    ∃ t, exec (.quadratureTransition n ⟨!(s.counters.get n).pair.a, !(s.counters.get n).pair.b⟩) s = .next t ∧
      t = { s with counters := t.counters, tools := t.tools, channels := t.channels } ∧
      (∀ k, k ≠ n → t.counters.get k = s.counters.get k ∧ t.channels.get k = s.channels.get k) ∧
      t.counters.get n =
        { s.counters.get n with
          pair := ⟨!(s.counters.get n).pair.a, !(s.counters.get n).pair.b⟩, fault := true
          dressContact :=
            if (s.channels.get n).state = .dressing then none else (s.counters.get n).dressContact } ∧
      (∀ slot, s.wheelAt n ≠ some slot → t.tools.get slot = s.tools.get slot) ∧
      (∀ slot tool, s.wheelAt n = some slot → s.tools.get slot = some tool →
        t.tools.get slot = some { tool with contacts := ⟨none, none, none⟩ }) ∧
      (t.channels.get n).teach = (s.channels.get n).teach ∧
      (∀ phase j, (s.channels.get n).activity = .journal phase j → phase ≠ .held →
        (t.channels.get n).activity = .journal .held (j.heldOn .blind)) ∧
      (∀ d, (s.channels.get n).activity = .dressing d →
        (t.channels.get n).activity = .dressing { d with faultMark := true, run := 0, runStart := none }) ∧
      ((s.channels.get n).state = .held ∨ (s.channels.get n).state = .idle ∨ (s.channels.get n).state = .stopped →
        t.channels = s.channels)

/-- The 64 bits of a good sensor frame, SFR_SYNC high at the first, become the pending frame with its four values, a
later good one replacing it. A complete frame with an even word, or with a word whose channel number is not its place, is
discarded. Fewer bits are kept as the partial frame, which SFR_SYNC high before the 64th abandons: the new frame counts as if
it stood alone. Edges with SFR_SYNC low between frames are ignored. Nothing else changes (R30). -/
def Obligations.SensorFrameIsHeld : Prop :=
  (∀ (v : PerHead Reading) (s : State), v.w0.p < 4096 → v.w0.a < 4096 → v.w1.p < 4096 → v.w1.a < 4096 →
    exec (.sensorFrame (frameEdges (sensorBits v))) s = .next
      { s with sampler := { s.sampler with partialFrame := none, pendingFrame := some v } }) ∧
  (∀ (bits : List Bool) (s : State), bits.length = 64 →
    (∃ place, place < 4 ∧ (((bits.drop (16 * place)).take 16).countP id % 2 = 0 ∨
      (bits.drop (16 * place)).take 3 ≠ numberBits 3 place)) →
    exec (.sensorFrame (frameEdges bits)) s = .next { s with sampler := { s.sampler with partialFrame := none } }) ∧
  (∀ (bits : List Bool) (s : State), bits ≠ [] → bits.length < 64 →
    exec (.sensorFrame (frameEdges bits)) s = .next { s with sampler := { s.sampler with partialFrame := some bits } }) ∧
  (∀ (before : Option (List Bool)) (part bits : List Bool) (s : State), part.length < 64 → bits ≠ [] →
    exec (.sensorFrame (frameEdges part ++ frameEdges bits))
        { s with sampler := { s.sampler with partialFrame := before } } =
      exec (.sensorFrame (frameEdges bits)) s) ∧
  ∀ (levels : List Bool) (s : State), s.sampler.partialFrame = none →
    exec (.sensorFrame (levels.map fun b => (false, b))) s = .next s

/-- At a sample instant a pending frame becomes the latest values and clears the missing run with SENSOR_LOST; without one
the run rises to at most 255 and sets SENSOR_LOST from 8 on. The counts stand and become the previous positions, and with
both channels IDLE or STOPPED nothing else changes but an offer of a STATUS. Otherwise each channel takes its sample of
the instant, wheelhead 0 first, as its journal or its dress takes one, and a STATUS that is due is offered (R24, R31 to
R33, R39, R44, R65; the clock is the model's, log entry 3, as are the order of the channels, log entry 5, and the moment
of the offer, log entry 4). -/
def Obligations.SampleInstantTakesFrame : Prop :=
  ∀ s : State, ∃ t, exec .sampleInstant s = .next t ∧ t.clock = s.clock + 1 ∧
    t.sampler.previous = ⟨s.counters.w0.count, s.counters.w1.count⟩ ∧
    t.sampler.partialFrame = s.sampler.partialFrame ∧ t.sampler.pendingFrame = none ∧
    (∀ v, s.sampler.pendingFrame = some v →
      t.sampler.latest = v ∧ t.sampler.missing = 0 ∧ t.sampler.lost = ⟨false, false⟩) ∧
    (s.sampler.pendingFrame = none →
      t.sampler.latest = s.sampler.latest ∧ t.sampler.missing = min (s.sampler.missing + 1) 255 ∧
      t.sampler.lost = (if 8 ≤ s.sampler.missing + 1 then ⟨true, true⟩ else s.sampler.lost)) ∧
    (∀ n, (t.counters.get n).count = (s.counters.get n).count ∧ (t.counters.get n).pair = (s.counters.get n).pair ∧
      (t.counters.get n).fault = (s.counters.get n).fault) ∧
    t.station = s.station ∧ t.config = s.config ∧ t.store = s.store ∧ t.port.inbound = s.port.inbound ∧
    ((∀ n, (s.channels.get n).state = .idle ∨ (s.channels.get n).state = .stopped) →
      { s with clock := s.clock + 1, sampler := t.sampler }.statusOnly t) ∧
    let sample (n : Wheelhead) : Sample :=
      { p := (t.sampler.latest.get n).p, a := (t.sampler.latest.get n).a, position := (s.counters.get n).count
        advanced := decide (1 ≤ s.advance n (s.sampler.previous.get n) (s.counters.get n).count)
        held := decide (s.sampler.pendingFrame = none), lost := t.sampler.lost.get n }
    let took (u : State) (n : Wheelhead) : State :=
      match (u.channels.get n).activity with
      | .journal phase j => u.sampleJournal n phase j (sample n)
      | .dressing d => u.sampleDress n d (sample n)
      | _ => u
    (s.markFigures (took (took { s with clock := s.clock + 1, sampler := t.sampler } .w0) .w1)).statusOnly t

/-! ## Grind checking (chapter 3) -/

/-- The fourth contact sample in a row declares contact: the candidate becomes the contact capture and the last contact
of the class, the old capture contact-prior, the channel enters GRINDING with its band source settled, and the run's four
powers begin the energy. Nothing else of the journal changes but the counts and peaks, and nothing else of the part; a
declaring sample may be a first crash sample. A sample in ARMED that neither declares contact nor reaches a verdict is tested
against the baseline as it stood, moves the contact run with its candidate and its powers, and then joins the baseline, the
floor of the mean of the last 64; nothing else changes but the counts and peaks (R17, R27, R34, R35, R42, R44, R55). -/
def Obligations.FourthContactSampleDeclares : Prop :=
  (∀ (s : State) (n : Wheelhead) (j : Journal) (x : Sample) (idle : Nat) (candidate : Pos) (slot : Fin 8) (tool : Tool)
    (source : BandSource),
    x.lost = false → x.a < s.figures.aeCrash ∨ j.crashRun = 0 → j.contactRun = 3 → j.candidate = some candidate →
    j.idlePower = some idle → idle + s.figures.contactMargin ≤ x.p → s.wheelAt n = some slot →
    s.tools.get slot = some tool →
    (j.source = some source ∨ j.source = none ∧ (∃ env, s.store.usable j.key = some env ∧ source = .envelope env) ∨
      j.source = none ∧ s.store.usable j.key = none ∧ source = .coarse) →
    s.sampleJournal n .armed j x =
      ((s.setCounter n { s.counters.get n with
          contactPrior := (s.counters.get n).contact, contact := some candidate }).setTool slot
        (some { tool with contacts := tool.contacts.set j.cls (some candidate) })).setActivity n
          (.journal .grinding
            { j.sampled s.figures.aeCrash x with
              source := some source, contactRun := 4, candidate := none, runPowers := [], stillRun := 0, contacted := true
              energy := min ((j.runPowers ++ [x.p]).map fun p => p - idle).sum 4294967295 })) ∧
  ∀ (s : State) (n : Wheelhead) (j : Journal) (x : Sample), x.lost = false → x.a < s.figures.aeCrash ∨ j.crashRun = 0 →
    (j.contactRun = 3 → ∀ idle, j.idlePower = some idle → x.p < idle + s.figures.contactMargin) →
    (∀ tool last, s.tools.get j.slot = some tool → tool.contacts.get j.cls = some last →
      s.advance n last x.position ≤ s.figures.voidMargin) →
    s.sampleJournal n .armed j x = s.setActivity n (.journal .armed (j.waited s.figures x))

/-- The verdicts of a journal in their order: BLIND on a lost sensor, CRASH at the second crash sample in a row, VOID past the
last contact in ARMED, LOSS when the low run of a compared sample reaches its limit, its advance mark set or, in GRINDING,
clear with the still run below 16; a first crash sample may reach VOID or LOSS. Each takes the channel to HELD with the feed
hold asserted and the journal's verdict, counts, peaks and runs as the steps before the verdict leave them, the sample still
joining the energy of a journal past contact. CRASH, VOID and LOSS leave the journal's tool BROKEN with a TOOL NOTICE, its
reservation gone and its BREAK trigger taken, and BLIND changes nothing but the channel (R16, R36, R44, R45, R49 to R53, R55,
R60, R155). -/
def Obligations.VerdictsHoldTheFeed : Prop :=
  ∀ (s : State) (n : Wheelhead) (phase : JournalPhase) (j : Journal) (x : Sample), phase ≠ .held →
    let c := s.figures
    let t := s.sampleJournal n phase j x
    let counted := j.sampled c.aeCrash x
    let held (k : Journal) : State := s.setActivity n (.journal .held k)
    (x.lost = true → heldBy t n .blind ∧
      t = held (({ counted with crashRun := j.crashRun }.heldOn .blind).summed x.p)) ∧
    (x.lost = false → c.aeCrash ≤ x.a → 1 ≤ j.crashRun → heldBy t n .crash ∧ brokenWithin s t j.slot ∧
      breaksTool (held ((counted.heldOn .crash).summed x.p)) t j.slot) ∧
    (x.lost = false → x.a < c.aeCrash ∨ j.crashRun = 0 → phase = .armed →
      (j.contactRun ≠ 3 ∨ ∀ idle, j.idlePower = some idle → x.p < idle + c.contactMargin) →
      (∀ tool last, s.tools.get j.slot = some tool → tool.contacts.get j.cls = some last →
        (c.voidMargin : Int) < s.advance n last x.position → heldBy t n .void ∧ brokenWithin s t j.slot ∧
          breaksTool (held ((j.waited c x).heldOn .void)) t j.slot)) ∧
    (x.lost = false → x.a < c.aeCrash ∨ j.crashRun = 0 → phase = .grinding ∨ phase = .sparkout →
      x.advanced = true ∨ phase = .grinding ∧ j.stillRun < 15 →
      let travel := s.travel n x.position
      let compared := j.compare c.contactMargin (s.bandEnvelope j) travel x.p
      lossLimit c.nLow (s.bandEnvelope j) ≤ compared.lowRun →
      heldBy t n .loss ∧ brokenWithin s t j.slot ∧
        breaksTool ((s.foldTeach n j travel x.p).setActivity n (.journal .held
          ((({ counted with
            stillRun := if x.advanced then 0 else j.stillRun + 1
            lowRun := compared.lowRun, highRun := compared.highRun } : Journal).heldOn .loss).summed x.p))) t j.slot)

/-- On an envelope a compared sample below the lower bound of its point is LOW, one above the upper bound and not LOW is
HIGH, and the runs move with the class, up to 255; on the coarse band one below the idle power and half the contact margin is
LOW. The travel is the advance past the contact capture, a negative one taken as 0. In GRINDING and SPARKOUT a sample with its
advance mark set, or clear in GRINDING with the still run below 16, is compared: the channel is in GRINDING, the still run is
0 or one longer, the runs move, HEAVY is marked at N_high, and a teach grind folds the power into its table. One that is not
compared leaves the channel in SPARKOUT with its runs held. Either joins the counts, the peaks and the energy, and a HELD
sample does that alone (R44 to R50, R55, R99). -/
def Obligations.ComparedSamplesMoveRuns : Prop :=
  (∀ (j : Journal) (margin travel p : Nat) (env : Envelope) (point : Bounds), 1 ≤ env.step →
    env.points[min (travel / env.step) 63]? = some point →
    (p < point.lower → j.compare margin (some env) travel p =
      { j with lowRun := min (j.lowRun + 1) 255, highRun := 0 }) ∧
    (point.lower ≤ p → point.upper < p → j.compare margin (some env) travel p =
      { j with lowRun := 0, highRun := min (j.highRun + 1) 255 }) ∧
    (point.lower ≤ p → p ≤ point.upper → j.compare margin (some env) travel p =
      { j with lowRun := 0, highRun := 0 })) ∧
  (∀ (j : Journal) (margin travel p idle : Nat), j.idlePower = some idle →
    (p < idle + margin / 2 → j.compare margin none travel p = { j with lowRun := min (j.lowRun + 1) 255 }) ∧
    (idle + margin / 2 ≤ p → j.compare margin none travel p = { j with lowRun := 0 })) ∧
  (∀ (nLow : Nat) (env : Envelope), lossLimit nLow (some env) = nLow ∧ lossLimit nLow none = min (2 * nLow) 128) ∧
  (∀ (s : State) (n : Wheelhead) (position contact : Pos), (s.counters.get n).contact = some contact →
    s.travel n position = ((position - contact).toInt * s.figures.dir n).toNat) ∧
  (∀ (s : State) (n : Wheelhead) (phase : JournalPhase) (j : Journal) (x : Sample),
    phase = .grinding ∨ phase = .sparkout → x.lost = false → x.a < s.figures.aeCrash ∨ j.crashRun = 0 →
    let taken := (j.sampled s.figures.aeCrash x).summed x.p
    let travel := s.travel n x.position
    let compared := j.compare s.figures.contactMargin (s.bandEnvelope j) travel x.p
    let after : Journal := { taken with
      stillRun := if x.advanced = true then 0 else j.stillRun + 1, lowRun := compared.lowRun, highRun := compared.highRun
      heavy := j.heavy || decide (s.figures.nHigh ≤ compared.highRun) }
    (x.advanced = false → phase = .sparkout ∨ 15 ≤ j.stillRun → s.sampleJournal n phase j x =
      s.setActivity n (.journal .sparkout { taken with stillRun := min (j.stillRun + 1) 16 })) ∧
    (x.advanced = true ∨ phase = .grinding ∧ j.stillRun < 15 →
      compared.lowRun < lossLimit s.figures.nLow (s.bandEnvelope j) →
      (j.source ≠ some .teach ∨ (s.channels.get n).teach = none →
        s.sampleJournal n phase j x = s.setActivity n (.journal .grinding after)) ∧
      ∀ b, j.source = some .teach → (s.channels.get n).teach = some b → ∃ c,
        s.sampleJournal n phase j x = (s.setTeach n (some c)).setActivity n (.journal .grinding after) ∧
        c = { b with grindTable := c.grindTable } ∧ (b.grindOpen = false → c = b) ∧
        (b.grindOpen = true → ∀ (k : Nat) (hk : k < 64), c.grindTable[k] =
          if k = min (travel / b.step) 63 then
            some (match b.grindTable[k] with
              | none => ⟨x.p, x.p⟩
              | some u => ⟨min u.lower x.p, max u.upper x.p⟩)
          else b.grindTable[k]))) ∧
  ∀ (s : State) (n : Wheelhead) (j : Journal) (x : Sample), s.sampleJournal n .held j x =
    s.setActivity n (.journal .held { (j.sampled s.figures.aeCrash x).summed x.p with crashRun := j.crashRun })

/-- HOLDn_N is asserted whenever channel n is HELD or STOPPED or the station is not RUNNING, and no step lets it go but
START and a HOLD RELEASE of a STOPPED channel (R56, R57, R60, R61, R178). A message waits inbound only while the outbound
queue is full, which QueuesKeepTheirBounds states. -/
def Obligations.HoldEndsOnlyByRelease : Prop :=
  (∀ (s : State) (n : Wheelhead), s.holdAsserted n = true ↔
    (s.channels.get n).state = .held ∨ (s.channels.get n).state = .stopped ∨ s.station ≠ .running) ∧
  ∀ (s t : State) (n : Wheelhead), s.inboundServed → step s = .next t → s.holdAsserted n = true →
    t.holdAsserted n = false → ∃ i m, s.pending.head? = some i ∧ m ∈ s.incoming i ∧
      (decodeRequest m = some .start ∨
        ∃ wheelhead, decodeRequest m = some (.holdRelease wheelhead) ∧ wheelheadOf wheelhead = some n ∧
          (s.channels.get n).state = .stopped)

/-- A JOURNAL BEGIN that passes its checks arms the channel of the entry's wheel for the entry: the source is TEACH when
a teach waits on the key, the resident usable slot, or pending; the end capture goes, and the REPLY is ACCEPTED. The store
looks the key up as Table 5-2 says, unless a teach waits on it, then takes a prefetch for the next journal of the
wheelhead; a demand meets an idle flash port with no other work by starting its fetch at once. Nothing but the counter's
end capture, the channel, the store and the port changes (R28, R40, R41, R82, R83, R84, R86, R98, R117, R120, R121). -/
def Obligations.JournalBeginArms : Prop :=
  (∀ (x : Store) (key : Nat),
    (∀ slot, x.resident key = some slot →
      (x.slots.get slot = .filling key → x.lookup key = (none, x)) ∧
      (x.slots.get slot = .absent key →
        x.lookup key = (none, { x with lru := x.lru.filter (fun k => k != slot) ++ [slot] })) ∧
      ((x.slots.get slot).envelope.isSome = true →
        x.lookup key = (some slot, { x with lru := x.lru.filter (fun k => k != slot) ++ [slot] }))) ∧
    (x.resident key = none → x.badKeys.getLsbD key = true → x.lookup key = (none, x)) ∧
    (x.resident key = none → x.badKeys.getLsbD key = false → ∀ demands prefetches,
      x.queue = demands ++ prefetches → (∀ r ∈ demands, r.kind = .demand) → (∀ r ∈ prefetches, r.kind = .prefetch) →
      ((∃ r ∈ demands, r.key = key) → x.lookup key = (none, x)) ∧
      ((∀ r ∈ demands, r.key ≠ key) →
        ((∃ r ∈ prefetches, r.key = key) → x.queue.length ≤ 4 → x.lookup key = (none, { x with
          queue := demands ++ [⟨key, .demand⟩] ++ prefetches.filter fun r => r.key != key })) ∧
        ((∀ r ∈ prefetches, r.key ≠ key) →
          (x.queue.length < 4 → x.lookup key = (none, { x with queue := demands ++ [⟨key, .demand⟩] ++ prefetches })) ∧
          (4 ≤ x.queue.length → prefetches ≠ [] → x.lookup key =
            (none, { x with queue := demands ++ [⟨key, .demand⟩] ++ prefetches.dropLast })) ∧
          (4 ≤ x.queue.length → prefetches = [] → x.lookup key = (none, x)))))) ∧
  ∀ (variant journal : Byte) (op : Op) (e : OpEntry) (n : Wheelhead) (tool : Tool) (s : State),
    s.takesNow (.journalBegin variant journal) = true → s.station = .running → opOf variant journal = some op →
    s.sister.part = some op.variant → s.sister.isLent op = false → s.sister.entry op = some e →
    s.tools.get e.slot = some tool → tool.seat = .wheelhead n → tool.check s.figures.overrunAllowance = none →
    (s.channels.get n).state = .idle → ∃ t j,
      exec (.journalBegin variant journal) s = .next t ∧
      t = { s.answered 0x0A (.accepted .plain) with counters := t.counters, channels := t.channels, store := t.store } ∧
      t.counters = s.counters.set n { s.counters.get n with journalEnd := none } ∧
      (∀ k, k ≠ n → t.channels.get k = s.channels.get k) ∧
      (t.channels.get n).activity = .journal .armed j ∧
      j.op = e.op ∧ j.cls = e.cls ∧ j.slot = e.slot ∧ j.key = keyOf n e.op ∧ j.window = [] ∧ j.samplesArmed = 0 ∧
      j.idlePower = none ∧ j.contactRun = 0 ∧ j.candidate = none ∧ j.crashRun = 0 ∧ j.stillRun = 0 ∧ j.lowRun = 0 ∧
      j.highRun = 0 ∧ j.heavy = false ∧ j.verdict = none ∧ j.energy = 0 ∧ j.peakP = 0 ∧ j.peakA = 0 ∧ j.samples = 0 ∧
      j.heldCount = 0 ∧ j.contacted = false ∧ j.deadline = s.clock + 2 * (1000 * s.figures.maxGrind) ∧
      (∀ b, (s.channels.get n).teach = some b → b.key = keyOf n e.op →
        j.source = some .teach ∧
        (t.channels.get n).teach = some { b with grindTable := Vector.replicate 64 none, grindOpen := true }) ∧
      ((∀ b, (s.channels.get n).teach = some b → b.key ≠ keyOf n e.op) →
        (t.channels.get n).teach = (s.channels.get n).teach ∧
        j.source = (s.store.usable (keyOf n e.op)).map .envelope) ∧
      (∀ ahead behind, s.store.port ≠ .idle → s.sister.opList = ahead ++ e :: behind → (∀ x ∈ ahead, x.op ≠ e.op) →
        let looked := if ∃ b, (s.channels.get n).teach = some b ∧ b.key = keyOf n e.op then s.store
          else (s.store.lookup (keyOf n e.op)).2
        t.store = match (behind ++ ahead).find? (s.prefetchable op.variant n) with
          | some next => looked.placePrefetch (keyOf n next.op)
          | none => looked) ∧
      ((∀ b, (s.channels.get n).teach = some b → b.key ≠ keyOf n e.op) → s.store.port = .idle → s.store.queue = [] →
        s.store.resident (keyOf n e.op) = none → s.store.badKeys.getLsbD (keyOf n e.op) = false →
        ∀ slot, s.chooseSlot = some slot →
          t.store.port = .fetching slot (keyOf n e.op) 0 false ∧ t.store.slots = s.store.slots.set slot (.filling (keyOf n e.op)))

/-- A JOURNAL BEGIN refused NOT_MINE, or TOOL_BROKEN at the tool check, leaves an unwatched record ahead of its REPLY
and changes nothing else; with room for a record both join the back of the queue. By the other checks of Table 7-3, in their
order, it is refused with a REPLY alone and nothing else changes (R9, R117, R118, R119). -/
def Obligations.UnwatchedJournalIsRecorded : Prop :=
  (∀ (variant journal : Byte) (s : State),
    let i : Instr := .journalBegin variant journal
    s.takesNow i = true →
    (s.station ≠ .running → s.refuses i 0x0A .wrongState) ∧
    (s.station = .running →
      (8 ≤ variant.toNat ∨ 16 ≤ journal.toNat → s.refuses i 0x0A .badValue) ∧
      ∀ op, opOf variant journal = some op →
        (s.sister.part = none → s.refuses i 0x0A .wrongState) ∧
        (∀ v, s.sister.part = some v → op.variant ≠ v → s.refuses i 0x0A .badValue) ∧
        (s.sister.part = some op.variant → s.sister.isLent op = false → ∀ e, s.sister.entry op = some e →
          ((∀ tool n, s.tools.get e.slot = some tool → tool.seat ≠ .wheelhead n) → s.refuses i 0x0A .unknownTool) ∧
          ∀ tool n, s.tools.get e.slot = some tool → tool.seat = .wheelhead n →
            (tool.state = .spent → tool.life = -(s.figures.overrunAllowance : Int) → s.refuses i 0x0A .toolSpent) ∧
            (tool.check s.figures.overrunAllowance = none → (s.channels.get n).state ≠ .idle →
              s.refuses i 0x0A .busy)))) ∧
  ∀ (variant journal : Byte) (op : Op) (s : State), s.takesNow (.journalBegin variant journal) = true →
    s.station = .running → opOf variant journal = some op → s.sister.part = some op.variant →
    ∀ reason,
      ((s.sister.isLent op = true ∨ s.sister.entry op = none) ∧ reason = .notMine ∨
        s.sister.isLent op = false ∧ reason = .toolBroken ∧ ∃ e tool n, s.sister.entry op = some e ∧
          s.tools.get e.slot = some tool ∧ tool.seat = .wheelhead n ∧ tool.state = .broken) → ∃ t,
      exec (.journalBegin variant journal) s = .next t ∧ s.taking.messagesOnly t ∧
      t.repliedLast 0x0A (.refused reason) ∧ t.tellsRecord (.unwatched op reason) ∧
      (s.port.records < 12 → s.port.outbound.length < 15 →
        t.port.outbound = s.port.outbound ++ [.unwatched op reason, .reply 0x0A (.refused reason)])

/-- The close of a journal, by JOURNAL END or by its overlong timer: the end capture takes the count, the tool takes the
journal's charge, with a TOOL NOTICE where it calls for one, the grind record is placed with the settled verdict, and the
channel enters STOPPED from HELD and IDLE otherwise. The wheel's dress-due run rises by one up to dress_count where q is
at dress_ratio or above, returns to 0 below it, and stands for a BROKEN tool; its rise to dress_count tells DRESS DUE, and
an absent, SPENT or BROKEN roll then makes the wheel dress blocked, with a TOOL NOTICE. The sister unit takes the trigger
of a wheel newly dress blocked, then that of the tool's new state. No other tool, no other counter, and nothing of the
station, the sampler or the part record changes. A JOURNAL END outside RUNNING, for another wheelhead or for a channel
without a journal is refused, and nothing else changes (R14, R28, R56 to R59, R73, R74, R155, R175; the clock reaches the
timer's moment by log entry 3, and the order of the reports is log entry 17, both the model's). -/
def Obligations.JournalEndCloses : Prop :=
  (∀ (n : Wheelhead) (phase : JournalPhase) (j : Journal) (s : State),
    (s.channels.get n).activity = .journal phase j →
    (∀ wheelhead, wheelheadOf wheelhead = some n → s.takesNow (.journalEnd wheelhead) = true → s.station = .running →
      ∃ t, exec (.journalEnd wheelhead) s = .next t ∧ closedJournal s.taking t n phase j false ∧
        t.clock = s.clock ∧ t.repliedLast 0x0B (.accepted .plain)) ∧
    ∃ t, exec (.overlongExpiry n) s = .next t ∧ closedJournal s t n phase j true ∧ t.clock = max s.clock j.deadline) ∧
  ∀ (wheelhead : Byte) (s : State), s.takesNow (.journalEnd wheelhead) = true →
    (s.station ≠ .running → s.refusesAndOffers (.journalEnd wheelhead) 0x0B .wrongState) ∧
    (s.station = .running →
      (2 ≤ wheelhead.toNat → s.refusesAndOffers (.journalEnd wheelhead) 0x0B .badValue) ∧
      ∀ n, wheelheadOf wheelhead = some n → (∀ phase j, (s.channels.get n).activity ≠ .journal phase j) →
        s.refusesAndOffers (.journalEnd wheelhead) 0x0B .wrongState)

/-- A HOLD RELEASE brings a STOPPED channel to IDLE, its line going high in a RUNNING station, is accepted in IDLE
with nothing changed, refused WRONG_STATE in HELD and BUSY in ARMED, GRINDING, SPARKOUT and DRESSING; no tool changes
(R61). Outside RUNNING it is refused WRONG_STATE (Table 11-1), and for another wheelhead BAD_VALUE (R175). -/
def Obligations.HoldReleaseByState : Prop :=
  (∀ (wheelhead : Byte) (s : State), s.takesNow (.holdRelease wheelhead) = true →
    (s.station ≠ .running → s.refuses (.holdRelease wheelhead) 0x0E .wrongState) ∧
    (s.station = .running → 2 ≤ wheelhead.toNat → s.refuses (.holdRelease wheelhead) 0x0E .badValue)) ∧
  ∀ (wheelhead : Byte) (n : Wheelhead) (s : State), s.takesNow (.holdRelease wheelhead) = true →
    s.station = .running → wheelheadOf wheelhead = some n →
    ((s.channels.get n).state = .stopped →
      exec (.holdRelease wheelhead) s = .next ((s.setActivity n .idle).answered 0x0E (.accepted .plain)) ∧
      ((s.setActivity n .idle).answered 0x0E (.accepted .plain)).holdAsserted n = false) ∧
    ((s.channels.get n).state = .idle →
      exec (.holdRelease wheelhead) s = .next (s.answered 0x0E (.accepted .plain))) ∧
    ((s.channels.get n).state = .held →
      exec (.holdRelease wheelhead) s = .next (s.answered 0x0E (.refused .wrongState))) ∧
    ((s.channels.get n).state = .armed ∨ (s.channels.get n).state = .grinding ∨
        (s.channels.get n).state = .sparkout ∨ (s.channels.get n).state = .dressing →
      exec (.holdRelease wheelhead) s = .next (s.answered 0x0E (.refused .busy)))

/-! ## The dress cycle (chapter 4) -/

/-- A DRESS BEGIN whose wheel and roll are fit and whose channel is IDLE opens the dress of the two, its dress captures
absent and its overlong timer running, and is answered ACCEPTED; nothing else changes. A sample of a dress counts and keeps
the peaks; with SENSOR_LOST it sets the dress's own mark, below ae_dress it ends a run, and the second sample in a row at
ae_dress or above is dresser contact, whose run's first position becomes the dress-contact capture if there is none yet.
A DRESS BEGIN is refused by the checks of Table 4-2 in their order, the wheel ahead of the roll, each by the tool check of
Table 1-6, and nothing else changes (R9, R29, R63, R64, R65). -/
def Obligations.DressBeginOpens : Prop :=
  (∀ (s : State) (n : Wheelhead) (d : Dress) (x : Sample),
    let counted : Dress := { d with
      samples := min (d.samples + 1) 65535, heldCount := if x.held then min (d.heldCount + 1) 65535 else d.heldCount
      peakP := max d.peakP x.p, peakA := max d.peakA x.a }
    (x.lost = true → s.sampleDress n d x =
      s.setActivity n (.dressing { counted with sensorLoss := true, run := 0, runStart := none })) ∧
    (x.lost = false → x.a < s.figures.aeDress → s.sampleDress n d x =
      s.setActivity n (.dressing { counted with run := 0, runStart := none })) ∧
    (x.lost = false → s.figures.aeDress ≤ x.a → d.run = 0 → s.sampleDress n d x =
      s.setActivity n (.dressing { counted with run := 1, runStart := some x.position })) ∧
    (x.lost = false → s.figures.aeDress ≤ x.a → ∀ start, d.run = 1 → d.runStart = some start → s.sampleDress n d x =
      (s.setCounter n { s.counters.get n with
        dressContact := match (s.counters.get n).dressContact with
          | some first => some first
          | none => some start }).setActivity n
        (.dressing { counted with run := 0, runStart := none, contactSeen := true }))) ∧
  (∀ (tool : Tool) (allowance : Nat),
    (tool.state = .broken → tool.check allowance = some .toolBroken) ∧
    (tool.state = .spent → tool.life = -(allowance : Int) → tool.check allowance = some .toolSpent) ∧
    (tool.state ≠ .broken → (tool.state = .spent → tool.life ≠ -(allowance : Int)) → tool.check allowance = none)) ∧
  (∀ (wheelhead : Byte) (s : State),
    let i : Instr := .dressBegin wheelhead
    s.takesNow i = true →
    (s.station ≠ .running → s.refuses i 0x0C .wrongState) ∧
    (s.station = .running → (2 ≤ wheelhead.toNat → s.refuses i 0x0C .badValue) ∧
      ∀ n, wheelheadOf wheelhead = some n →
        (s.wheelAt n = none → s.refuses i 0x0C .unknownTool) ∧
        ∀ wheelSlot wheel, s.wheelAt n = some wheelSlot → s.tools.get wheelSlot = some wheel →
          (∀ reason, wheel.check s.figures.overrunAllowance = some reason → s.refuses i 0x0C reason) ∧
          (wheel.check s.figures.overrunAllowance = none →
            (s.rollAt n = none → s.refuses i 0x0C .unknownTool) ∧
            ∀ rollSlot roll, s.rollAt n = some rollSlot → s.tools.get rollSlot = some roll →
              (∀ reason, roll.check s.figures.overrunAllowance = some reason → s.refuses i 0x0C reason) ∧
              (roll.check s.figures.overrunAllowance = none → (s.channels.get n).state ≠ .idle →
                s.refuses i 0x0C .busy)))) ∧
  ∀ (wheelhead : Byte) (n : Wheelhead) (wheelSlot rollSlot : Fin 8) (wheel roll : Tool) (s : State),
    s.takesNow (.dressBegin wheelhead) = true → s.station = .running → wheelheadOf wheelhead = some n →
    s.wheelAt n = some wheelSlot → s.rollAt n = some rollSlot → s.tools.get wheelSlot = some wheel →
    s.tools.get rollSlot = some roll → wheel.check s.figures.overrunAllowance = none →
    roll.check s.figures.overrunAllowance = none → (s.channels.get n).state = .idle →
    exec (.dressBegin wheelhead) s = .next
      (((s.setCounter n { s.counters.get n with dressContact := none, dressEnd := none }).setActivity n
        (.dressing
          { wheelSlot := wheelSlot, rollSlot := rollSlot, run := 0, runStart := none, contactSeen := false
            sensorLoss := false, faultMark := false, peakP := 0, peakA := 0, samples := 0, heldCount := 0
            deadline := s.clock + 2 * (1000 * s.figures.maxGrind) })).answered 0x0C (.accepted .plain))

/-- The close of a dress, by DRESS END or by its overlong timer: the dress-end capture takes the count, the wheel is
charged d × K_w and the roll K_r, the wheel's last contacts move toward the part by d, and the record is placed. DRESS END
clears the dress-due run and the dress-blocked flag, and a dresser VOID leaves the roll BROKEN and the channel STOPPED; an
OVERLONG dress does neither, and its depth is the measured one, at most 500, or 0 without a dress-contact capture. A TOOL
NOTICE tells of each tool that calls for one. The sister unit hears of the wheel's state, then of the roll's, then of a
dress-blocked flag that was cleared: that cancels the open DRESS_BLOCKED hand-offs of the slot, then removes its standing
DRESS_BLOCKED records with their pairs ACTIVE. A DRESS END outside RUNNING, for another wheelhead or for a channel without
a dress is refused, and nothing else changes (R15, R67 to R72, R168, R175; the order of the reports is the model's, log
entry 17, read from the numbered steps of the rules, that the cancellation comes before the records is log entry 47, that
the LOCAL of a cancelled hand-off names its whole batch and its marked operations leave with one OPS_BACK each are log
entries 53 and 16, that several hand-offs are cancelled in the order they were opened is log entry 57, that no notice
tells of those records is log entry 48, and the clock reaches the timer's moment by log entry 3). -/
def Obligations.DressEndCloses : Prop :=
  (∀ (n : Wheelhead) (d : Dress) (wheel roll : Tool) (s : State), (s.channels.get n).activity = .dressing d →
    d.wheelSlot ≠ d.rollSlot → s.tools.get d.wheelSlot = some wheel → s.tools.get d.rollSlot = some roll →
    (∀ wheelhead depth, wheelheadOf wheelhead = some n → s.takesNow (.dressEnd wheelhead depth) = true →
      s.station = .running → ∃ t, exec (.dressEnd wheelhead depth) s = .next t ∧
        closedDress s.taking t n d wheel roll (some (min depth.toNat 500)) ∧ t.clock = s.clock ∧
        t.repliedLast 0x0D (.accepted .plain)) ∧
    ∃ t, exec (.dressOverlongExpiry n) s = .next t ∧ closedDress s t n d wheel roll none ∧
      t.clock = max s.clock d.deadline) ∧
  (∀ (wheelhead : Byte) (depth : BitVec 16) (s : State), s.takesNow (.dressEnd wheelhead depth) = true →
    (s.station ≠ .running → s.refusesAndOffers (.dressEnd wheelhead depth) 0x0D .wrongState) ∧
    (s.station = .running →
      (2 ≤ wheelhead.toNat → s.refusesAndOffers (.dressEnd wheelhead depth) 0x0D .badValue) ∧
      ∀ n, wheelheadOf wheelhead = some n → (∀ d, (s.channels.get n).activity ≠ .dressing d) →
        s.refusesAndOffers (.dressEnd wheelhead depth) 0x0D .wrongState)) ∧
  ∀ (slot : Fin 8) (s : State),
    let blockedOnes := s.sister.handOffs.filter fun h => h.slot == slot && h.trigger == .dressBlocked
    let u := blockedOnes.foldl (fun u h => u.cancelHandOff h) s
    let blocked (r : Standing) : Bool := r.slot == slot && r.trigger == .dressBlocked
    let pairs := (u.sister.standing.filter blocked).flatMap Standing.pairs
    (∀ h ∈ blockedOnes, ∀ u : State, u.cancels (u.cancelHandOff h) h) ∧
    (∀ h ∈ blockedOnes, (s.reportUnblocked slot).tellsCancelled h) ∧
    s.reportUnblocked slot =
      { u with sister := { u.sister with
        opList := u.sister.opList.map fun (e : OpEntry) => if e.op ∈ pairs then { e with status := .active } else e
        standing := u.sister.standing.filter fun r => !blocked r } }

/-- The reconciled depth of a dress closed on a report: the report where the dress-contact capture is absent or agrees
with it within dress_tol, and else the larger of the two with DEPTH_MISMATCH set, clamped to 0 to 500; the measured
depth is the magnitude of the distance from the dress-contact capture to the count at the close (R68). -/
def Obligations.DepthIsReconciled : Prop :=
  ∀ (s : State) (n : Wheelhead) (d : Dress) (reported : Nat),
    let r := s.dressRecord n d (some reported)
    ((s.counters.get n).dressContact = none →
      r.measured = none ∧ r.depth = min reported 500 ∧ r.depthMismatch = false) ∧
    ∀ contact measured, (s.counters.get n).dressContact = some contact →
      measured = ((s.counters.get n).count - contact).toInt.natAbs →
      r.measured = some measured ∧
      (((reported : Int) - measured).natAbs ≤ s.figures.dressTol →
        r.depth = min reported 500 ∧ r.depthMismatch = false) ∧
      (s.figures.dressTol < ((reported : Int) - measured).natAbs →
        r.depth = min (max reported measured) 500 ∧ r.depthMismatch = true)

/-! ## Teaching (chapter 6) -/

/-- A TEACH that passes its checks puts the channel's buffer in WAITING on the key with the M and step taken, starting
empty, and is answered with them; nothing else changes. Otherwise it is refused by the checks of Table 6-3 in their order, and
nothing else changes. A counted grind merges its table point by point and adds its
energy and one to the count, and the envelope of a completed teach has the mean energy, the taught bounds widened by
the margins, and 0 to 4095 at points never reached. The end of a teach grind closes it in the buffer, and when the count has
reached M the buffer is FREE and its envelope placed in the store. It goes to the slot where its key is resident, or else to
the slot chosen: the lowest EMPTY one, or the least recently used one that is not pinned. That slot is WRITING with no attempt
made, at the recent end and among the pending writes, where it keeps a place it has; a queued request and the bad mark of the
key go. A fetch under way goes on, the outcome of a write under way to that slot is to be discarded, and an idle port with no
other work starts the write (R79, R81, R91, R95, R96, R98, R100 to R103). -/
def Obligations.TeachWaitsCountsAndForms : Prop :=
  (∀ (variant journal wheelhead m : Byte) (step : BitVec 16) (op : Op) (n : Wheelhead) (s : State),
    s.takesNow (.teach variant journal wheelhead m step) = true → s.station ≠ .unconfigured →
    opOf variant journal = some op → wheelheadOf wheelhead = some n → (s.channels.get n).teach = none →
    (s.claims < 4 ∨ s.store.isUnsaved (keyOf n op) = true) →
    exec (.teach variant journal wheelhead m step) s = .next
      ((s.setTeach n (some
        { key := op.variant * 32 + wheelheadNumber n * 16 + op.journal, m := max 4 (min m.toNat 16)
          step := max 1 (min step.toNat 4095), counted := 0, table := Vector.replicate 64 none, energySum := 0
          grindTable := Vector.replicate 64 none, grindOpen := false })).answered 0x0F
        (.accepted (.teach (max 4 (min m.toNat 16)) (max 1 (min step.toNat 4095)))))) ∧
  (∀ (variant journal wheelhead m : Byte) (step : BitVec 16) (s : State),
    let i : Instr := .teach variant journal wheelhead m step
    s.takesNow i = true →
    (s.station = .unconfigured → s.refuses i 0x0F .wrongState) ∧
    (s.station ≠ .unconfigured →
      (8 ≤ variant.toNat ∨ 16 ≤ journal.toNat ∨ 2 ≤ wheelhead.toNat → s.refuses i 0x0F .badValue) ∧
      ∀ op n, opOf variant journal = some op → wheelheadOf wheelhead = some n →
        ((s.channels.get n).teach ≠ none → s.refuses i 0x0F .busy) ∧
        ((s.channels.get n).teach = none → 4 ≤ s.claims → s.store.isUnsaved (keyOf n op) = false →
          s.refuses i 0x0F .storeFull))) ∧
  (∀ (b : TeachBuffer) (energy k : Nat) (hk : k < 64),
    let c := b.closeGrind true energy
    c.energySum = b.energySum + energy ∧ c.counted = b.counted + 1 ∧ c.grindOpen = false ∧ c.key = b.key ∧ c.m = b.m ∧
    c.step = b.step ∧ c.grindTable[k] = none ∧ (b.grindTable[k] = none → c.table[k] = b.table[k]) ∧
    (∀ g, b.grindTable[k] = some g → b.table[k] = none → c.table[k] = some g) ∧
    ∀ g u, b.grindTable[k] = some g → b.table[k] = some u →
      c.table[k] = some ⟨min g.lower u.lower, max g.upper u.upper⟩) ∧
  (∀ (b : TeachBuffer) (c : Figures) (k : Nat) (hk : k < 64),
    let e := b.envelope c
    e.m = b.m ∧ e.step = b.step ∧ e.eRef = b.energySum / b.m ∧
    (b.table[k] = none → e.points[k] = ⟨0, 4095⟩) ∧
    ∀ u, b.table[k] = some u → e.points[k] = ⟨u.lower - c.marginLow, min 4095 (u.upper + c.marginHigh)⟩) ∧
  (∀ (n : Wheelhead) (phase : JournalPhase) (j : Journal) (b : TeachBuffer) (wheelhead : Byte) (s : State),
    (s.channels.get n).activity = .journal phase j → j.source = some .teach → (s.channels.get n).teach = some b →
    wheelheadOf wheelhead = some n → s.takesNow (.journalEnd wheelhead) = true → s.station = .running →
    let counted := j.verdict.isNone && !j.heavy && j.contacted
    let closed := b.closeGrind counted j.energy
    ∃ t, exec (.journalEnd wheelhead) s = .next t ∧
      (counted = false ∨ closed.counted < b.m → (t.channels.get n).teach = some closed ∧ t.store = s.store) ∧
      (counted = true → b.m ≤ closed.counted → (t.channels.get n).teach = none ∧
        t.store = (s.placeEnvelope b.key (closed.envelope s.figures)).store)) ∧
  (∀ (s : State) (slot : Fin 24),
    (s.pinnedSlot slot = true ↔
      (∃ key, s.store.slots.get slot = .filling key) ∨ (∃ key env attempts, s.store.slots.get slot = .writing key env attempts) ∨
        (∃ key env, s.store.slots.get slot = .unsaved key env) ∨
        ∃ n phase j, (s.channels.get n).activity = .journal phase j ∧ j.source = some (.envelope slot)) ∧
    (s.store.slots.get slot = .empty → (∀ k < slot, s.store.slots.get k ≠ .empty) → s.chooseSlot = some slot) ∧
    ∀ ahead behind, (∀ k, s.store.slots.get k ≠ .empty) → s.store.lru = ahead ++ slot :: behind →
      (∀ k ∈ ahead, s.pinnedSlot k = true) → s.pinnedSlot slot = false → s.chooseSlot = some slot) ∧
  ∀ (key : Nat) (env : Envelope) (slot : Fin 24) (s : State),
    s.store.resident key = some slot ∨ s.store.resident key = none ∧ s.chooseSlot = some slot →
    let placed : Store := { s.store with
      slots := s.store.slots.set slot (.writing key env 0), lru := s.store.lru.filter (fun k => k != slot) ++ [slot]
      queue := s.store.queue.filter (fun r => r.key != key), badKeys := s.store.badKeys &&& ~~~(BitVec.twoPow 256 key)
      pendingWrites := if slot ∈ s.store.pendingWrites then s.store.pendingWrites else s.store.pendingWrites ++ [slot] }
    (∀ other k reads cutShort, s.store.port = .fetching other k reads cutShort →
      s.placeEnvelope key env = { s with store := placed }) ∧
    (∀ other k record discard, s.store.port = .writing other k record discard →
      s.placeEnvelope key env = { s with store := { placed with
        port := .writing other k record (discard || decide (other = slot)) } }) ∧
    (s.store.port = .idle → (∀ r ∈ placed.queue, r.kind = .prefetch) → s.store.pendingWrites = [] →
      s.placeEnvelope key env = { s with store := { placed with
        port := .writing slot key (recordBytes key env) false, pendingWrites := [] } })

/-! ## The envelope store (chapter 5) -/

/-- The end of a read: a good read fills the slot READY and an erased one ABSENT, at the most recent end; a bad read is read
again below the third, whatever waits, and at the third the slot becomes EMPTY, its key bad and BAD_RECORD is told. A fetch cut
short by a RESTART reads no further, and a bad read leaves its slot EMPTY with no key marked and nothing told. Where a teach
result has reached the slot the outcome is discarded. The port is idle then, and an idle port takes the first work that waits:
the demand at the front of the queue, the write that has waited longest, the prefetch at the front, or none. Nothing else
changes (R85 to R91, R93, R94; that a cut-short fetch tells nothing, and that one whose slot is WRITING is cut short too, are
the model's choices, log entries 30 and 40). -/
def Obligations.FetchReadEnds : Prop :=
  (∀ s : State,
    (s.store.port ≠ .idle → s.arbitrate = s) ∧
    (s.store.port = .idle →
      (s.store.queue = [] → s.store.pendingWrites = [] → s.arbitrate = s) ∧
      (∀ key kind rest slot, s.store.queue = ⟨key, kind⟩ :: rest → kind = .demand ∨ s.store.pendingWrites = [] →
        s.chooseSlot = some slot →
        s.arbitrate = { s with store := { s.store with
          slots := s.store.slots.set slot (.filling key), lru := s.store.lru.filter (fun k => k != slot) ++ [slot]
          queue := rest, port := .fetching slot key 0 false } }) ∧
      ∀ slot waiting key env attempts, s.store.pendingWrites = slot :: waiting →
        s.store.slots.get slot = .writing key env attempts → (∀ r, s.store.queue.head? = some r → r.kind = .prefetch) →
        s.arbitrate = { s with store := { s.store with
          port := .writing slot key (recordBytes key env) false, pendingWrites := waiting } })) ∧
  ∀ (bytes : List Byte) (slot : Fin 24) (key reads : Nat) (cutShort : Bool) (s : State),
    s.store.port = .fetching slot key reads cutShort →
    (∀ why, judgeRead key bytes = .bad why → cutShort = false → reads < 2 →
      exec (.fetchReadEnd bytes) s = .next
        { s with store := { s.store with port := .fetching slot key (reads + 1) false } }) ∧
    (s.store.slots.get slot = .filling key →
      (∀ env, judgeRead key bytes = .good env →
        exec (.fetchReadEnd bytes) s = .next
          { s with store := { s.store with
            slots := s.store.slots.set slot (.ready key env), port := .idle
            lru := s.store.lru.filter (fun k => k != slot) ++ [slot] } }.arbitrate) ∧
      (judgeRead key bytes = .erased →
        exec (.fetchReadEnd bytes) s = .next
          { s with store := { s.store with
            slots := s.store.slots.set slot (.absent key), port := .idle
            lru := s.store.lru.filter (fun k => k != slot) ++ [slot] } }.arbitrate) ∧
      ∀ why, judgeRead key bytes = .bad why →
        let emptied : Store := { s.store with
          slots := s.store.slots.set slot .empty, port := .idle, lru := s.store.lru.filter (fun k => k != slot) }
        (cutShort = true → exec (.fetchReadEnd bytes) s = .next { s with store := emptied }.arbitrate) ∧
        (cutShort = false → 2 ≤ reads → ∃ t, exec (.fetchReadEnd bytes) s = .next t ∧
          { s with store := { emptied with
            badKeys := s.store.badKeys ||| BitVec.twoPow 256 key } }.arbitrate.messagesOnly t ∧
          t.tellsNotice (.storeNotice (.badRecord key slot why)))) ∧
    (s.store.slots.get slot ≠ .filling key →
      (∀ why, judgeRead key bytes = .bad why → cutShort = true ∨ 2 ≤ reads) →
      exec (.fetchReadEnd bytes) s = .next { s with store := { s.store with port := .idle } }.arbitrate)

/-- The end of a write: a good compare leaves the slot READY; a failed one, the status timeout included, puts the slot back
among the pending writes for one more attempt and then leaves it UNSAVED with its notice; the outcome of a write overtaken by
a newer placement moves no slot. The contents of the slot are kept. The port is idle then and takes the first work that waits,
a demand ahead of a write and a write ahead of a prefetch, as FetchReadEnds states; with nothing else waiting the write that
waits for this slot starts at once (R77, R85, R90, R103, R104). -/
def Obligations.WriteEnds : Prop :=
  ∀ (readBack : List Byte) (slot : Fin 24) (key : Nat) (record : List Byte) (env : Envelope) (attempts : Nat) (s : State),
    s.store.slots.get slot = .writing key env attempts →
    (s.store.port = .writing slot key record true → ∀ i, i = .writeEnd readBack ∨ i = .writeStatusTimeout →
      exec i s = .next { s with store := { s.store with port := .idle } }.arbitrate ∧
      (s.store.queue = [] → s.store.pendingWrites = [slot] → exec i s = .next
        { s with store := { s.store with port := .writing slot key (recordBytes key env) false, pendingWrites := [] } })) ∧
    (s.store.port = .writing slot key record false →
      (readBack = record → exec (.writeEnd readBack) s = .next
        { s with store := { s.store with port := .idle, slots := s.store.slots.set slot (.ready key env) } }.arbitrate) ∧
      ∀ i, (i = .writeEnd readBack ∧ readBack ≠ record) ∨ i = .writeStatusTimeout →
        (attempts = 0 → exec i s = .next
            { s with store := { s.store with
              port := .idle, slots := s.store.slots.set slot (.writing key env 1)
              pendingWrites := s.store.pendingWrites ++ [slot] } }.arbitrate ∧
          (s.store.queue = [] → s.store.pendingWrites = [] → exec i s = .next
            { s with store := { s.store with
              port := .writing slot key (recordBytes key env) false
              slots := s.store.slots.set slot (.writing key env 1) } })) ∧
        (attempts ≠ 0 → ∃ t, exec i s = .next t ∧
          { s with store := { s.store with
              port := .idle, slots := s.store.slots.set slot (.unsaved key env) } }.arbitrate.messagesOnly t ∧
          t.tellsNotice (.storeNotice (.unsaved key slot))))

/-- A record written to the flash and read back whole is judged good for its key, with the contents it was formed from
(R76, R87, R90, Table 11-10). -/
def Obligations.FlashRecordReadsBack : Prop :=
  ∀ (key : Nat) (env : Envelope), fitsBits 8 key → env.fits →
    (recordBytes key env).length = 204 ∧ judgeRead key (recordBytes key env) = .good env

/-- The fetch queue never holds more than 4 requests, never one key twice, never a key that is resident, and keeps its
demands ahead of its prefetches, in every state that a step reaches from one where this holds (R83, R84, R86, R91). -/
def Obligations.FetchQueueStaysSound : Prop :=
  ∀ s t : State, s.store.queueSound → step s = .next t → t.store.queueSound

/-! ## The operation list (chapter 7) -/

/-- An ASSIGN that passes its checks puts a new OWN, ACTIVE, unmarked entry at the back, or immediately ahead of the
entry it names; an UNASSIGN removes its entry. Both mark the status changed and are answered ACCEPTED; nothing else
changes but an offer of a STATUS. An ASSIGN is refused by the checks of Table 7-2 in their order, and an UNASSIGN by those of
R113: nothing else changes but such an offer (R111, R112, R113). -/
def Obligations.AssignPlacesUnassignRemoves : Prop :=
  (∀ (variant journal cls slot place beforeVariant beforeJournal : Byte) (op : Op) (c : JournalClass) (k : Fin 8)
    (tool : Tool) (n : Wheelhead) (s : State),
    s.takesNow (.assign variant journal cls slot place beforeVariant beforeJournal) = true →
    s.station ≠ .unconfigured → s.sister.part = none → opOf variant journal = some op → classOf cls = some c →
    slot.toNat = k.val → s.tools.get k = some tool → tool.seat = .wheelhead n → tool.state ≠ .broken →
    s.sister.listed op = false → s.sister.isLent op = false → s.sister.occupancy < 24 →
    let e : OpEntry := { op := op, cls := c, slot := k, lender := none, status := .active, mark := none }
    (place = 0 → ∃ t, exec (.assign variant journal cls slot place beforeVariant beforeJournal) s = .next t ∧
      ({ s with sister := { s.sister with opList := s.sister.opList ++ [e], mark := true } }.answered 0x06
        (.accepted .plain)).statusOnly t) ∧
    ∀ ahead other behind, place = 1 → opOf beforeVariant beforeJournal = some other.op →
      s.sister.opList = ahead ++ other :: behind → (∀ x ∈ ahead, x.op ≠ other.op) → ∃ t,
      exec (.assign variant journal cls slot place beforeVariant beforeJournal) s = .next t ∧
      ({ s with sister := { s.sister with opList := ahead ++ e :: other :: behind, mark := true } }.answered 0x06
        (.accepted .plain)).statusOnly t) ∧
  (∀ (variant journal cls slot place beforeVariant beforeJournal : Byte) (s : State),
    let i : Instr := .assign variant journal cls slot place beforeVariant beforeJournal
    s.takesNow i = true →
    (s.station = .unconfigured → s.refusesAndOffers i 0x06 .wrongState) ∧
    (s.station ≠ .unconfigured → s.sister.part ≠ none → s.refusesAndOffers i 0x06 .busy) ∧
    (s.station ≠ .unconfigured → s.sister.part = none →
      (8 ≤ variant.toNat ∨ 16 ≤ journal.toNat ∨ 3 ≤ cls.toNat ∨ 8 ≤ slot.toNat ∨ 2 ≤ place.toNat ∨
          place.toNat = 1 ∧ (8 ≤ beforeVariant.toNat ∨ 16 ≤ beforeJournal.toNat) → s.refusesAndOffers i 0x06 .badValue) ∧
      ∀ (op : Op) (c : JournalClass) (k : Fin 8), opOf variant journal = some op → classOf cls = some c →
        slot.toNat = k.val → place = 0 ∨ place = 1 ∧ opOf beforeVariant beforeJournal ≠ none →
        (s.tools.get k = none → s.refusesAndOffers i 0x06 .unknownTool) ∧
        ∀ tool, s.tools.get k = some tool →
          ((∀ n, tool.seat ≠ .wheelhead n) → s.refusesAndOffers i 0x06 .badValue) ∧
          ∀ n, tool.seat = .wheelhead n →
            (tool.state = .broken → s.refusesAndOffers i 0x06 .toolBroken) ∧
            (tool.state ≠ .broken →
              (s.sister.listed op = true ∨ s.sister.isLent op = true ∨
                  place = 1 ∧ (∀ other, opOf beforeVariant beforeJournal = some other → s.sister.listed other = false) →
                s.refusesAndOffers i 0x06 .badValue) ∧
              (s.sister.listed op = false → s.sister.isLent op = false →
                place = 0 ∨ (∀ other, opOf beforeVariant beforeJournal = some other → s.sister.listed other = true) →
                24 ≤ s.sister.occupancy → s.refusesAndOffers i 0x06 .tableFull)))) ∧
  (∀ (variant journal : Byte) (s : State),
    let i : Instr := .unassign variant journal
    s.takesNow i = true →
    (s.station = .unconfigured → s.refusesAndOffers i 0x07 .wrongState) ∧
    (s.station ≠ .unconfigured → s.sister.part ≠ none → s.refusesAndOffers i 0x07 .busy) ∧
    (s.station ≠ .unconfigured → s.sister.part = none →
      (8 ≤ variant.toNat ∨ 16 ≤ journal.toNat → s.refusesAndOffers i 0x07 .badValue) ∧
      ∀ op, opOf variant journal = some op →
        (s.sister.entry op = none → s.refusesAndOffers i 0x07 .notMine) ∧
        ∀ e, s.sister.entry op = some e → e.status = .handing → s.refusesAndOffers i 0x07 .busy)) ∧
  ∀ (variant journal : Byte) (op : Op) (e : OpEntry) (s : State), s.takesNow (.unassign variant journal) = true →
    s.station ≠ .unconfigured → s.sister.part = none → opOf variant journal = some op → s.sister.entry op = some e →
    e.status ≠ .handing → ∃ t, exec (.unassign variant journal) s = .next t ∧
      ({ s with sister := { s.sister with
          opList := s.sister.opList.filter (fun x => x.op != op), mark := true } }.answered 0x07
        (.accepted .plain)).statusOnly t

/-- An accepted PART BEGIN sets the part record and offers the store up to two prefetches, wheelhead 0 first, for the
first entry of the variant on each wheelhead whose wheel is not BROKEN; while the flash port is busy they only join the
fetch queue, and the first of them starts its fetch at once in an idle store with no other work. Nothing else changes but
the REPLY. It is refused by the checks of R114 in their order, and nothing else changes (R84, R86, R114). -/
def Obligations.PartBeginPrefetches : Prop :=
  (∀ (variant : Byte) (s : State), s.takesNow (.partBegin variant) = true →
    (s.station ≠ .running → s.refuses (.partBegin variant) 0x08 .wrongState) ∧
    (s.station = .running →
      (8 ≤ variant.toNat → s.refuses (.partBegin variant) 0x08 .badValue) ∧
      (variant.toNat < 8 → s.sister.part ≠ none → s.refuses (.partBegin variant) 0x08 .busy))) ∧
  ∀ (variant : Byte) (s : State), s.takesNow (.partBegin variant) = true → s.station = .running → variant.toNat < 8 →
    s.sister.part = none → ∃ t, exec (.partBegin variant) s = .next t ∧
      t = { { s with sister := { s.sister with part := some variant.toNat } }.answered 0x08 (.accepted .plain) with
        store := t.store } ∧
      ((∀ n e, e ∈ s.sister.opList → s.prefetchable variant.toNat n e = false) → t.store = s.store) ∧
      let candidate (n : Wheelhead) : Option OpEntry := s.sister.opList.find? (s.prefetchable variant.toNat n)
      let first (n : Wheelhead) (x : Store) : Store :=
        match candidate n with
        | some e => x.placePrefetch (keyOf n e.op)
        | none => x
      (s.store.port ≠ .idle → t.store = first .w1 (first .w0 s.store)) ∧
      (s.store.port = .idle → s.store.queue = [] → s.store.pendingWrites = [] → ∀ n e slot, candidate n = some e →
        n = .w0 ∨ candidate .w0 = none → s.store.resident (keyOf n e.op) = none →
        s.store.badKeys.getLsbD (keyOf n e.op) = false → s.chooseSlot = some slot →
        let started : Store := { s.store with
          slots := s.store.slots.set slot (.filling (keyOf n e.op))
          lru := s.store.lru.filter (fun k => k != slot) ++ [slot], port := .fetching slot (keyOf n e.op) 0 false }
        t.store = if n = .w0 then first .w1 started else started)

/-- An accepted PART END clears the part record and lets every marked entry that is not HANDING leave, the others keeping
their order; each that leaves is told by an OPS_BACK notice, and those marked RECLAIM are given back by one RELEASE for
each lender, of which those that find the transmit queue full are discarded with QUEUE_FULL. Nothing else of the sister
unit changes but the offer of a STATUS. It is answered ACCEPTED, and with no entry to leave nothing else changes but an
offer of a STATUS. Outside RUNNING and with no part it is refused WRONG_STATE, and with a journal open BUSY; nothing else
changes (R115, R116, R129, R170; that the RELEASE frames are offered ahead of the notices is the model's choice, log entry
31, and so are one OPS_BACK for each entry and one RELEASE for each lender, log entry 16). -/
def Obligations.PartEndLetsMarkedLeave : Prop :=
  (∀ s : State, s.takesNow .partEnd = true →
    (s.station ≠ .running ∨ s.sister.part = none → s.refusesAndOffers .partEnd 0x09 .wrongState) ∧
    (s.station = .running → s.sister.part ≠ none → ∀ n, (s.channels.get n).journalOpen = true →
      s.refusesAndOffers .partEnd 0x09 .busy)) ∧
  ∀ s : State, s.takesNow .partEnd = true → s.station = .running → (s.sister.part).isSome = true →
    (∀ n, (s.channels.get n).journalOpen = false) → ∃ t, exec .partEnd s = .next t ∧
      s.taking.reportsOnly t ∧ t.repliedLast 0x09 (.accepted .plain) ∧
      t.sister =
        { s.sister with
          part := none, opList := s.sister.opList.filter fun e => !(e.mark.isSome && e.status != .handing)
          mark := t.sister.mark, period := t.sister.period } ∧
      (let leaving := s.sister.opList.filter fun e => e.mark.isSome && e.status != .handing
        let reclaimed := leaving.filter fun e => e.mark == some .reclaim
        let lenders := distinct (reclaimed.filterMap OpEntry.lender)
        (∀ e ∈ leaving, t.tellsBack e.lender [e.op]) ∧
        t.link.frames = s.link.frames ++ (lenders.map fun l =>
          (FrameBody.release l ((reclaimed.filter fun e => e.lender == some l).map OpEntry.op)).fresh).take
            (8 - s.link.framesHeld) ∧
        (lenders ≠ [] → 8 < s.link.framesHeld + lenders.length → t.tellsNotice (.linkNotice (.queueFull .release)))) ∧
      ((∀ e ∈ s.sister.opList, e.mark = none ∨ e.status = .handing) →
        ({ s with sister := { s.sister with part := none } }.answered 0x09 (.accepted .plain)).statusOnly t)

/-! ## The cell link (chapter 8) -/

/-- FRAME_BEGIN brings the quiet passed since the last command of the link. The candidate begins once the quiet time has
reached its gap: the oldest urgent frame, or with none the oldest; the copies on both lines are given up, each receiver
waits for a quiet line again, and nothing else changes. Below the gap only the quiet time grows. An edge on an UP line
returns the quiet time to 0, and one on a DOWN line does not. While not sending, a receiver whose line was quiet looks for
the pattern: one it was looking for begins a copy, which is of one frame with the copy that the latest pattern on the
other line began when it follows it by at most 2 bit times, and one that comes within a copy begins none. A pattern that
begins a copy gives up every older frame under way that no frame row took: its own frame is left, and the frame that the
other line's latest pattern began (R125, R127, R128, R131, R134, R135, R138; that older frames are given up then is the
model's choice, log entry 14, and so are that FRAME_BEGIN carries the quiet time that has passed and raises it alone below
the gap, log entry 3, that a copy in progress is given up when the station begins to send and what an edge says of the
quiet before it, log entries 41 and 45). -/
def Obligations.CandidateBeginsAfterGap : Prop :=
  (∀ (wait : Nat) (ahead behind : List QueuedFrame) (f : QueuedFrame) (s : State), s.station = .running →
    s.link.queue = ahead ++ f :: behind → (∀ x ∈ s.link.queue, x.sending = false) →
    (f.body.isUrgent = true ∧ (∀ x ∈ ahead, x.body.isUrgent = false) ∨
      ahead = [] ∧ ∀ x ∈ s.link.queue, x.body.isUrgent = false) →
    (requiredGap s.figures.station f ≤ s.link.quietTime + wait →
      exec (.frameBegin wait) s = .next
        { s with link := { s.link with
          queue := ahead ++ { f with sending := true } :: behind, quietTime := s.link.quietTime + wait
          begun := []
          lines := ⟨{ s.link.lines.a with looking := false }, { s.link.lines.b with looking := false }⟩ } }) ∧
    (s.link.quietTime + wait < requiredGap s.figures.station f →
      exec (.frameBegin wait) s = .next { s with link := { s.link with quietTime := s.link.quietTime + wait } })) ∧
  ∀ (line : LineId) (quiet : Bool) (s : State), s.station ≠ .unconfigured →
    let seen : Link := { s.link with quietTime := if (s.link.lines.get line).up then 0 else s.link.quietTime }
    let looks := (s.link.lines.get line).looking || quiet
    let receiver (looking : Bool) : PerLine Line := s.link.lines.set line { s.link.lines.get line with looking := looking }
    let other : LineId := if line = .a then .b else .a
    (∀ pattern, s.link.isSending = true → exec (.lineEdge line ⟨quiet, pattern⟩) s = .next { s with link := seen }) ∧
    (s.link.isSending = false →
      exec (.lineEdge line ⟨quiet, none⟩) s = .next { s with link := { seen with lines := receiver looks } } ∧
      ∀ gap,
        (looks = false → exec (.lineEdge line ⟨quiet, some gap⟩) s = .next { s with link := seen }) ∧
        (looks = true → (∀ f ∈ s.link.begun, f.has other = false) →
          exec (.lineEdge line ⟨quiet, some gap⟩) s = .next
            { s with link := { seen with lines := receiver false, begun := [.alone line] } }) ∧
        ∀ before f newer, looks = true → s.link.begun = before ++ f :: newer → f.has other = true →
          (∀ g ∈ newer, g.has other = false) →
          exec (.lineEdge line ⟨quiet, some gap⟩) s = .next
            { s with link := { seen with
              lines := receiver false
              begun := if f.has line = false ∧ gap ≤ 2 then [.both] else [f, .alone line] } })

/-- The back-off of a frame is 12 bit times for each slot, the slot being (station − 1 + 5 × count) mod 16, from 0 to
180; the required gap is the class gap plus the back-off, the class gap alone at count 0; with each collision the slot
moves by 5 modulo 16 (R127, R133). -/
def Obligations.BackOffSpreads : Prop :=
  ∀ (station : Nat) (f : QueuedFrame), 1 ≤ station → station ≤ 16 →
    let slot := (station - 1 + 5 * f.attempts) % 16
    backOff station f.attempts = 12 * slot ∧ slot ≤ 15 ∧ backOff station f.attempts ≤ 180 ∧
    requiredGap station f =
      (if f.body.isUrgent then 10 else if f.body.isStatus then 26 else 18) +
        (if f.attempts = 0 then 0 else 12 * slot) ∧
    backOff station (f.attempts + 1) = 12 * ((slot + 5) % 16)

/-- When the sending completes the frame leaves the queue and its release is the last edge; a STATUS sent keeps its moment
and restarts the period timer, a CALL or an AWARD naming a winner under the current tag starts its timer, and a TAKEN
marks its adoption. A collision on an UP line stops the frame, which keeps its place with its attempt count risen by one;
at the eighth it leaves the queue, a STATUS without a word and any other frame with SEND_FAILED, and a CALL or an AWARD
naming a winner under the current tag ends its round: below round 3 the next one calls, and at round 3 the hand-off ends
FAILED. The other frames stay. A DOWN line is not read back (R130 to R132, R138, R145, R157, R161, R162, R166; that a
TAKEN marks every adoption of its caller and tag, log entry 55, and that NO_SISTER and the standing record name the whole
batch, log entry 53, are the model's choices). -/
def Obligations.SendingEnds : Prop :=
  ∀ (ahead behind : List QueuedFrame) (f : QueuedFrame) (s : State), s.link.queue = ahead ++ f :: behind →
    f.sending = true → (∀ x ∈ ahead ++ behind, x.sending = false) →
    let gone := { s with link := { s.link with queue := ahead ++ behind, quietTime := 0 } }
    (∃ t, exec .sendingComplete s = .next t ∧
      (f.body.isStatus = true → (∀ x ∈ ahead ++ behind, x.body.isStatus = false) →
        t = { gone with sister := { s.sister with
          lastSent := some s.clock, period := some (s.clock + 2 * s.figures.statusPeriod) } }) ∧
      (f.body.isStatus = false →
        { gone with sister := { s.sister with handOffs := t.sister.handOffs, log := t.sister.log } }.statusOnly t ∧
        (t.sister.handOffs = s.sister.handOffs ∨ ∃ h ∈ s.sister.handOffs, (∃ c, f.body = .call c ∧ h.tag = c.tag) ∨
          ∃ group station, f.body = .award h.tag group (some station)) ∧
        (t.sister.log = s.sister.log ∨ ∃ caller tag, f.body = .taken caller tag)) ∧
      (∀ c h, f.body = .call c → s.sister.openOf c.group = some h → h.tag = c.tag →
        t.sister.openOf c.group = some { h with timer := some (s.clock + 2 * c.window) }) ∧
      (∀ tag group station h, f.body = .award tag group (some station) → s.sister.openOf group = some h →
        h.tag = tag → t.sister.openOf group = some { h with timer := some (s.clock + 2 * s.figures.wCall) }) ∧
      ∀ caller tag, f.body = .taken caller tag → t.sister.log = s.sister.log.map fun a =>
        if a.caller = caller ∧ a.tag = tag then { a with sent := true } else a) ∧
    (∀ line, (s.link.lines.get line).up = false → exec (.collision line) s = .next s) ∧
    ∀ line, (s.link.lines.get line).up = true →
      (f.attempts < 7 → ∃ t, exec (.collision line) s = .next t ∧
        { s with link := { s.link with
          queue := ahead ++ { f with sending := false, attempts := f.attempts + 1 } :: behind
          quietTime := 0 } }.statusOnly t) ∧
      (7 ≤ f.attempts → f.body.isStatus = true → ∃ t, exec (.collision line) s = .next t ∧ gone.statusOnly t) ∧
      (7 ≤ f.attempts → f.body.isStatus = false → ∃ t, exec (.collision line) s = .next t ∧ gone.reportsOnly t ∧
        t.tellsNotice (.linkNotice (.sendFailed f.body.kind f.body.tag)) ∧ t.link.isSending = false ∧
        (∃ new, t.link.frames = gone.link.frames ++ new ∧ ∀ x ∈ new, x.attempts = 0 ∧ x.sending = false) ∧
        ((∀ h ∈ s.sister.handOffs, (∀ c, f.body = .call c → h.tag ≠ c.tag) ∧
            ∀ group station, f.body ≠ .award h.tag group (some station)) →
          gone.messagesAndStatus t) ∧
        (∀ h group, s.sister.openOf group = some h → h.round < 3 → s.link.framesHeld ≤ 8 →
          (∃ c, f.body = .call c ∧ c.group = group ∧ c.tag = h.tag) ∨
            (∃ station, f.body = .award h.tag group (some station)) →
          (gone.calledAgain h).messagesAndStatus t) ∧
        ∀ h group, s.sister.openOf group = some h → 3 ≤ h.round → s.failsAlone h →
          (∃ c, f.body = .call c ∧ c.group = group ∧ c.tag = h.tag) ∨
            (∃ station, f.body = .award h.tag group (some station)) →
          (gone.failed h).messagesAndStatus t ∧ t.tellsFailed h)

/-- A frame taken moves the runs of both lines by its two copies and takes an UP line DOWN or a DOWN one UP, whatever its
kind, with a LINE_DOWN or a LINE_UP notice of it exactly then; it touches no block but the sister unit, the link controller
and the port. The frame taken is the oldest of which every line that began a copy has ended that copy, and with no such frame
a row changes nothing. Without a selected copy that another station sent and that reads as a frame, it is dropped: the sister
unit hears nothing of it. A copy of this station's own number sets the flag and nothing else, with a LINK NOTICE of
DUPLICATE_STATION exactly when the flag was clear (R134 to R138, R140; the line states used are those before the frame, log
entry 9, the older of two frames that end at one moment is taken, log entry 14, and a row takes whatever its copies carry, log
entry 19). -/
def Obligations.FrameTakenMovesLines : Prop :=
  ∀ (a b : LineCopy) (i : Instr) (s : State), i ∈ takenFrames a b → s.station ≠ .unconfigured →
    s.link.isSending = false →
    let waits (f : FrameLines) : Prop := f.has .a = true ∧ a = none ∨ f.has .b = true ∧ b = none
    ((∀ f ∈ s.link.begun, waits f) → exec i s = .next s) ∧
    ∀ ahead f behind, s.link.begun = ahead ++ f :: behind → (∀ g ∈ ahead, waits g) → ¬ waits f →
      let x := if f.has .a = true then a else none
      let y := if f.has .b = true then b else none
      let own : Prop := ∃ c, s.link.select x y = some c ∧ c.station = s.figures.station
      s.link.frameEnds a b = some (x, y) ∧
      ∃ t, exec i s = .next t ∧ s.frameOnly t ∧ t.link.begun = ahead ++ behind ∧
        t.link.lines =
          ⟨s.link.lines.a.afterFrame (judgeCopy x).isSome (judgeCopy y).isSome s.link.lines.b.up,
            s.link.lines.b.afterFrame (judgeCopy y).isSome (judgeCopy x).isSome s.link.lines.a.up⟩ ∧
        (∀ l, let up := (s.link.lines.get l).up
          let after := (t.link.lines.get l).up
          (up = true → after = false → t.tellsNotice (.linkNotice (.lineDown l))) ∧
          (up = false → after = true → t.tellsNotice (.linkNotice (.lineUp l))) ∧
          (up = false ∨ after = true →
            t.port.outbound.count (.linkNotice (.lineDown l)) ≤ s.port.outbound.count (.linkNotice (.lineDown l))) ∧
          (up = true ∨ after = false →
            t.port.outbound.count (.linkNotice (.lineUp l)) ≤ s.port.outbound.count (.linkNotice (.lineUp l)))) ∧
        (own → s.link.duplicate = false → t.tellsNotice (.linkNotice .duplicateStation)) ∧
        (¬ own ∨ s.link.duplicate = true → t.port.outbound.count (.linkNotice .duplicateStation) ≤
          s.port.outbound.count (.linkNotice .duplicateStation)) ∧
        ((∀ c, s.link.select x y = some c → c.station ≠ s.figures.station → readFrame c.kind c.payload = none) →
          t.sister = { s.sister with mark := t.sister.mark, period := t.sister.period } ∧
          t.link.silence = s.link.silence ∧ t.link.silent = s.link.silent ∧
          (t.link.duplicate = true ↔ s.link.duplicate = true ∨ own))

/-- The two lines are never DOWN together, in every state that a step reaches from one where this holds (R137). -/
def Obligations.LinesNeverBothDown : Prop :=
  ∀ s t : State, s.lineUp → step s = .next t → t.lineUp

/-- A frame driven on a line and received whole there, after its opening pattern, is judged GOOD with the sender's
number, and its payload of at most 120 bytes reads as the same contents (R125, R126, R134, R135, Table 11-9). -/
def Obligations.LinkFrameReadsBack : Prop :=
  ∀ (station : Nat) (body : FrameBody), 1 ≤ station → station ≤ 16 → body.fits →
    body.payload.length ≤ 120 ∧
    frameBytes station body = openingPattern ++ (frameHead station body ++ crcBytes (frameHead station body)) ∧
    judgeCopy (some (cellsOf (frameHead station body ++ crcBytes (frameHead station body)))) =
      some { kind := body.kind.code, station := station, payload := body.payload } ∧
    readFrame body.kind.code body.payload = some body

/-! ## The peer view and the hand-off (chapters 9 and 10) -/

/-- A frame of any kind that is heard brings its station's entry to LIVE with age 0, or makes one while the view holds
fewer than 15, and restarts the silence timer; a STATUS replaces the contents of the entry, and a new entry of another
kind starts without any. With the view full no entry is made, the view-full flag is set, and VIEW_FULL tells the station
exactly when the flag was clear. No other entry changes (R135, R139, R146, R147; that each of the nine frame rows acts on
whatever frame its copies carry, not its own kind alone, is the model's choice, log entry 19). -/
def Obligations.StatusReplacesPeerEntry : Prop :=
  ∀ (a b : LineCopy) (station : Nat) (body : FrameBody) (i : Instr) (s : State), s.hears a b station body →
    i ∈ takenFrames a b → ∃ t,
    exec i s = .next t ∧ s.frameOnly t ∧
    t.link.silence = some (s.clock + 2 * (3 * s.figures.statusPeriod)) ∧ t.link.silent = false ∧
    (∀ p, s.sister.peer station = some p → t.sister.peer station = some
      { p with heardAt := s.clock, live := true, status := match body with
        | .status status => status
        | _ => p.status }) ∧
    (s.sister.peer station = none → s.sister.peers.length < 15 → t.sister.peer station = some
      { station := station, heardAt := s.clock, live := true, status := match body with
        | .status status => status
        | _ => { period := s.figures.statusPeriod, free := 0, tools := [], held := [], reclaim := [] } }) ∧
    (let full : Prop := s.sister.peer station = none ∧ 15 ≤ s.sister.peers.length
      let notice : OutMsg := .linkNotice (.viewFull station)
      (full → t.sister.peers = s.sister.peers ∧ t.sister.viewFull = true) ∧
      (¬ full → t.sister.viewFull = s.sister.viewFull) ∧
      (full → s.sister.viewFull = false → t.tellsNotice notice) ∧
      (¬ full ∨ s.sister.viewFull = true → t.port.outbound.count notice ≤ s.port.outbound.count notice)) ∧
    (∀ k, k ≠ station → t.sister.peer k = s.sister.peer k) ∧ t.sister.part = s.sister.part

/-- A CALL that the station may offer for reserves the best eligible tool for three windows and offers an OFFER of its
life, which QUEUE_FULL tells of when the transmit queue is full, the reservation standing. A CALL that it may not offer
for changes nothing of the sister unit but the peer view, and brings no frame (R129, R158; the model's choices are that
the room is tested by need_places while the reservation takes the places of the operations counted, log entry 51, that
each pair is judged alone, a pair named twice or pairs of several lenders among them, log entry 52, and that a variant
above 7 is taken as it comes, log entry 49). -/
def Obligations.CallReservesBestTool : Prop :=
  ∀ (a b : LineCopy) (station : Nat) (c : CallBody) (s : State), s.hears a b station (.call c) → ∃ t,
    exec (.callReceived a b) s = .next t ∧ s.frameOnly t ∧
    (s.mayOffer station c = false ∨ s.headWheels.filter (s.wheelEligible c) = [] →
      s.sister.heardAs t ∧ t.link.frames = s.link.frames) ∧
    ∀ slot tool, s.mayOffer station c = true →
      bestWheel (s.headWheels.filter (s.wheelEligible c)) = some (slot, tool) →
      ({ s.sister with
        reservations := s.sister.reservations.set slot (some
          { caller := station, tag := c.tag, group := c.group, ops := c.ops, opsCount := c.ops.length
            urgent := c.urgent, expiry := s.clock + 2 * (3 * c.window) }) } : Sister).heardAs t ∧
      offersFrame s t (.offer
        { caller := station, tag := c.tag, group := c.group, urgent := c.urgent, life := tool.life
          freeAfter := s.figures.capacity - (s.sister.occupancy + c.ops.length), slot := slot.val
          toolState := tool.state.code, opsCount := c.ops.length })

/-- An OFFER for the current tag of a hand-off in CALLING, from a station not STALE, joins its offer set in its rank,
replacing the station's earlier one, and the best 8 stay: an offer is dropped only when 8 better ones stand; any other
OFFER changes no hand-off (R160; a tool-state byte outside its list is kept as it comes, log entry 22, the model's
choice). -/
def Obligations.OfferJoinsInRank : Prop :=
  (∀ (a b : LineCopy) (station : Nat) (o : OfferBody) (s : State), s.hears a b station (.offer o) → ∃ t,
    exec (.offerReceived a b) s = .next t ∧ s.frameOnly t ∧ t.sister.opList = s.sister.opList ∧
    t.sister.lent = s.sister.lent ∧ t.sister.reservations = s.sister.reservations ∧
    (∀ h, o.caller = s.figures.station → s.sister.isStale station = false → s.sister.openOf o.group = some h →
      h.tag = o.tag → h.phase = .calling →
      t.sister.openOf o.group = some { h with
        offers := joinOffers h.offers
          { station := station, life := o.life, freeAfter := o.freeAfter, slot := o.slot, toolState := o.toolState
            opsCount := o.opsCount } }) ∧
    ((o.caller ≠ s.figures.station ∨ s.sister.isStale station = true ∨
        ∀ h, s.sister.openOf o.group = some h → h.tag ≠ o.tag ∨ h.phase ≠ .calling) →
      t.sister.handOffs = s.sister.handOffs)) ∧
  ∀ (offers : List Offer) (x : Offer), offers.Pairwise (fun y z => y.above z = true) →
    (joinOffers offers x).Pairwise (fun y z => y.above z = true) ∧ (joinOffers offers x).length ≤ 8 ∧
    (∀ y ∈ joinOffers offers x, y = x ∨ y ∈ offers ∧ y.station ≠ x.station) ∧
    (offers.length < 8 → x ∈ joinOffers offers x) ∧
    ∀ y, y = x ∨ y ∈ offers ∧ y.station ≠ x.station →
      y ∈ joinOffers offers x ∨ (joinOffers offers x).length = 8 ∧ ∀ z ∈ joinOffers offers x, z.above y = true

/-- An AWARD naming this station on a fit reservation adopts its operations at the back of the list, ACTIVE on the
reserved slot, OWN for a pair that comes home and ADOPTED otherwise, joins the adoption log, of which the last 8 stay,
tells OPS_IN and answers TAKEN; with an unfit tool it releases the reservation and answers DECLINE UNFIT, and with no
reservation it answers DECLINE TOO_LATE. An AWARD naming another releases the reservation and brings no frame, and with no
reservation nothing of the sister unit changes but the peer view. An answer that finds the transmit queue full is
discarded with QUEUE_FULL (R129, R154, R159, R162; that its tag must be the reservation's own is the model's reading of
R159 against R164, log entry 42; a reservation of fewer or more operations than its need_places, of a repeated pair or of
several lenders is adopted pair by pair, log entries 51 and 52, and a variant above 7 as it comes, log entry 49; OPS_IN
names the operations in the order called, log entry 53). -/
def Obligations.AwardAdoptsOrReleases : Prop :=
  ∀ (a b : LineCopy) (station : Nat) (tag : BitVec 8) (group : Nat) (winner : Option Nat) (s : State),
    s.hears a b station (.award tag group winner) → ∃ t,
    exec (.awardReceived a b) s = .next t ∧ s.frameOnly t ∧
    (s.reservedFor station tag = none → s.sister.heardAs t ∧
      (winner = some s.figures.station → offersFrame s t (.decline station tag .tooLate)) ∧
      (winner ≠ some s.figures.station → t.link.frames = s.link.frames)) ∧
    ∀ slot r, s.reservedFor station tag = some (slot, r) →
      let released : Sister := { s.sister with reservations := s.sister.reservations.set slot none }
      (winner ≠ some s.figures.station → released.heardAs t ∧ t.link.frames = s.link.frames) ∧
      (winner = some s.figures.station → s.fitToAdopt slot r = true →
        ({ released with
          opList := s.sister.opList ++ (r.ops.map fun o =>
            { op := o.op, cls := o.cls, slot := slot, lender := if s.sister.isLent o.op then none else some station
              status := .active, mark := none })
          lent := s.sister.lent.filter fun e => !decide (e.op ∈ r.ops.map CalledOp.op)
          log := (s.sister.log ++
            [({ caller := station, tag := tag, sent := false
                ops := r.ops.map fun o => ⟨o.op, s.sister.lent.find? fun e => e.op == o.op⟩ } : Adoption)]).drop
            (s.sister.log.length - 7) } : Sister).heardAs t ∧
        offersFrame s t (.taken station tag) ∧ t.tellsNotice (.swapNotice
          { kind := .opsIn, group := some r.group, slot := some slot, slot2 := none, peer := some station
            moved := r.ops.map CalledOp.op, dropped := [] })) ∧
      (winner = some s.figures.station → s.fitToAdopt slot r = false →
        released.heardAs t ∧ offersFrame s t (.decline station tag .unfit))

/-- A TAKEN that a hand-off honours ends it DONE: for a batch with no lender a lent entry is made for each operation, the
batch leaves the list, OPS_OUT tells of it and the hand-off is removed; under an earlier tag, with a station awarded under
the current one, an AWARD with no winner is offered for the current tag. Nothing more follows when no free operation and
no trigger of the group waits. A TAKEN addressed here that no hand-off honours is answered WITHDRAWN and changes nothing
else of the sister unit but the peer view, and one addressed to another changes nothing else of it and brings no frame. A
frame that finds the transmit queue full is discarded with QUEUE_FULL (R129, R163, R165, R166; that a batch of which an
operation has left the list is not honoured is the model's choice, log entry 44, and so are that of two hand-offs that
could honour it the one opened first does, log entry 58, that the new lent entries stand at the back of the lent list, log
entry 33, and that OPS_OUT names the operations in the order of the batch, log entry 53). -/
def Obligations.TakenLendsTheBatch : Prop :=
  ∀ (a b : LineCopy) (station caller : Nat) (tag : BitVec 8) (s : State), s.hears a b station (.taken caller tag) → ∃ t,
    exec (.takenReceived a b) s = .next t ∧ s.frameOnly t ∧
    (caller ≠ s.figures.station → s.sister.heardAs t ∧ t.link.frames = s.link.frames) ∧
    (caller = s.figures.station → s.sister.honours station tag = none →
      s.sister.heardAs t ∧ offersFrame s t (.decline station tag .withdrawn)) ∧
    ∀ h, caller = s.figures.station → s.sister.honours station tag = some h →
      let lent : List LentEntry := match h.lender with
        | none => h.batch.map fun o => { op := o.op, cls := o.cls, group := h.group, holder := station }
        | some _ => []
      t.sister.lent = s.sister.lent ++ lent ∧
      t.tellsNotice (.swapNotice
        { kind := .opsOut, group := some h.group, slot := some h.slot, slot2 := none, peer := some station
          moved := h.pairs, dropped := [] }) ∧
      ((∀ e ∈ s.sister.opList, e.slot = h.slot → e.status = .active → e.op ∈ h.pairs) →
        (∀ q ∈ s.sister.triggers, q.group ≠ h.group) →
        ({ s.sister with
          opList := s.sister.opList.filter fun e => !decide (e.op ∈ h.pairs), lent := s.sister.lent ++ lent
          handOffs := s.sister.handOffs.filter fun k => k.group != h.group } : Sister).heardAs t ∧
        (tag ≠ h.tag → h.awarded ≠ none → offersFrame s t (.award h.tag h.group none)) ∧
        (tag = h.tag ∨ h.awarded = none → t.link.frames = s.link.frames))

/-- A DECLINE TOO_LATE or UNFIT from the awarded station under the current tag ends the round: below round 3 a new round
calls with a new tag, and at round 3 the hand-off ends FAILED with NO_SISTER. With the transmit queue full each CALL is
discarded at its offer with QUEUE_FULL, which ends its round at once, so that the hand-off ends FAILED with a tag used for
each round. A DECLINE to another station, of another reason, or under a tag that no station was awarded changes nothing of
the sister unit but the peer view, and brings no frame; so does a RELEASE to another lender. A DECLINE WITHDRAWN undoes
the latest adoption logged for its caller and tag: adopted operations are marked, or leave at once with no part in
progress, and homecomers leave at once and are lent again while there is lent room; an adoption of which some pairs were
adopted and others came home is undone pair by pair; without a log entry it changes nothing. A RELEASE brings home the
lent entries it lists in lent-list order, each at the back of the list with origin OWN, as many as there is room for, and
the rest stay lent (R116, R129, R150, R161, R164 to R166, R170). The model's are: of two hand-offs that a DECLINE fits the
one opened first ends its round, log entry 58; the adoption undone is the latest that fits, log entry 18; entries marked
WITHDRAWN leave at once whatever their status, with one OPS_BACK each, log entry 16; homecomers are lent again one by one
while there is room, log entry 12, at the back of the lent list, log entry 33; their OPS_BACK names all of them as moved,
log entry 37; a homecomer that has left the list gets no lent entry, and with none still listed no OPS_BACK is queued, and
each pair goes by its own origin, the adopted ones first, log entry 46; a DECLINE of an unlisted reason is taken and does
nothing, log entry 22; and a hand-off that ends names its whole batch, and a notice its operations in the order of their
list, log entry 53. -/
def Obligations.DeclineAndReleaseAct : Prop :=
  (∀ (a b : LineCopy) (station addressed : Nat) (tag : BitVec 8) (reason : DeclineReason) (s : State),
    s.hears a b station (.decline addressed tag reason) → ∃ t,
    exec (.declineReceived a b) s = .next t ∧ s.frameOnly t ∧
    (addressed ≠ s.figures.station ∨ (∃ byte, reason = .other byte) ∨
        (reason = .tooLate ∨ reason = .unfit) ∧
          s.sister.handOffs.find? (fun k => k.tag == tag && k.awarded == some station) = none ∨
        reason = .withdrawn ∧ s.sister.log.reverse.find? (fun a => a.caller == station && a.tag == tag) = none →
      s.sister.heardAs t ∧ t.link.frames = s.link.frames) ∧
    (∀ h, addressed = s.figures.station → reason = .tooLate ∨ reason = .unfit →
      s.sister.handOffs.find? (fun k => k.tag == tag && k.awarded == some station) = some h →
      s.sister.openOf h.group = some h → h.round < 3 → s.link.framesHeld < 8 →
      t.sister.opList = s.sister.opList ∧ t.sister.tag = (s.calledAgain h).sister.tag ∧
      t.sister.handOffs = (s.calledAgain h).sister.handOffs ∧ t.link.frames = (s.calledAgain h).link.frames) ∧
    (∀ h, addressed = s.figures.station → reason = .tooLate ∨ reason = .unfit →
      s.sister.handOffs.find? (fun k => k.tag == tag && k.awarded == some station) = some h →
      s.sister.openOf h.group = some h → 3 ≤ h.round → s.failsAlone h →
      (s.failed h).sister.heardAs t ∧ t.link.frames = s.link.frames ∧ t.tellsFailed h) ∧
    (∀ h, addressed = s.figures.station → reason = .tooLate ∨ reason = .unfit →
      s.sister.handOffs.find? (fun k => k.tag == tag && k.awarded == some station) = some h →
      s.sister.openOf h.group = some h → h.round < 3 → 8 ≤ s.link.framesHeld → s.failsAlone h →
      (s.failedFull h).sister.heardAs t ∧
      t.link.frames = s.link.frames ∧ t.tellsFailed h ∧ t.tellsNotice (.linkNotice (.queueFull .call))) ∧
    (addressed = s.figures.station → reason = .withdrawn → t.sister.handOffs = s.sister.handOffs ∧
      let logged := s.sister.log.reverse.find? fun a => a.caller == station && a.tag == tag
      (logged = none → t.sister.opList = s.sister.opList ∧ t.sister.lent = s.sister.lent) ∧
      ∀ a, logged = some a →
        let adopted := (a.ops.filter fun o => o.home.isNone).map AdoptedOp.op
        let marked (e : OpEntry) : Bool := e.lender == some station && decide (e.op ∈ adopted) && e.mark.isNone
        let pairs := (s.sister.opList.filter marked).map OpEntry.op
        let leaves (e : OpEntry) : Bool := (marked e || e.mark.isSome) && decide (e.op ∈ pairs)
        let stay : List OpEntry := if s.sister.part = none then s.sister.opList.filter fun e => !leaves e
          else s.sister.opList.map fun e => if marked e then { e with mark := some .withdrawn } else e
        let back := a.ops.filter fun o => o.home.isSome && stay.any fun e => e.op == o.op
        let goes (e : OpEntry) : Bool := decide (e.op ∈ back.map AdoptedOp.op)
        ({ s.sister with
          opList := stay.filter fun e => !goes e
          lent := s.sister.lent ++ ((back.filterMap AdoptedOp.home).take s.sister.lentRoom).map
            fun e => { e with holder := station } } : Sister).heardAs t ∧
        (s.sister.part = none → ∀ e ∈ s.sister.opList, leaves e = true → t.tellsBack e.lender [e.op]) ∧
        (back ≠ [] → t.tellsBack (some station) ((stay.filter goes).map OpEntry.op)))) ∧
  ∀ (a b : LineCopy) (station lender : Nat) (ops : List Op) (s : State),
    s.hears a b station (.release lender ops) → ∃ t,
    exec (.releaseReceived a b) s = .next t ∧ s.frameOnly t ∧ t.sister.handOffs = s.sister.handOffs ∧
    (lender ≠ s.figures.station → s.sister.heardAs t ∧ t.link.frames = s.link.frames) ∧
    (lender = s.figures.station →
      let listed := s.sister.lent.filter fun e => e.holder == station && decide (e.op ∈ ops)
      let home := listed.take (24 - s.sister.occupancy)
      ({ s.sister with
        opList := s.sister.opList ++ home.map s.homeEntry
        lent := home.foldl List.erase s.sister.lent } : Sister).heardAs t ∧ t.link.frames = s.link.frames ∧
      (s.sister.occupancy + listed.length ≤ 24 →
        t.sister.lent = s.sister.lent.filter fun e => !(e.holder == station && decide (e.op ∈ ops))) ∧
      (home ≠ [] → t.tellsBack (some station) (home.map LentEntry.op)))

/-- A STATUS heard moves operations, each case taken with no other at work. A group it reclaims gets the leaving mark
RECLAIM on the operations adopted from its station; with no part in progress they leave at once with one RELEASE (R149,
R170). The lent operations that their holder no longer lists come home in lent-list order, as many as there is room for,
and the rest stay lent; one that a holder lists and no lent entry covers is lent out again, or its TAKEN is repeated when
it had come home (R150). The whole batch of a hand-off awarded to the station, listed there, stands for its TAKEN (R163).
A standing record that the STATUS serves, of an entry not STALE or made by the frame itself, opens again as a hand-off,
and is removed without one when none of its pairs remain (R169); with the view full and no entry made it restarts nothing
(R146). A frame that finds the transmit queue full is discarded with QUEUE_FULL, and with it full the hand-off opened ends
FAILED, its record standing again (R129, R157). The model's are: reclaimed entries leave at once whatever their status,
with one OPS_BACK each, log entry 16; the adoption that came home is the latest that fits, log entry 18; a new lent entry
stands at the back of the lent list, log entry 33; a tool-state byte outside its list serves no record, log entry 22; a
standing record names its whole batch, log entry 53; a record that restarts forms its batch in the order of its pairs, log
entry 56; and an entry the STATUS itself makes counts as not STALE, log entry 50. -/
def Obligations.StatusMovesOperations : Prop :=
  ∀ (a b : LineCopy) (station : Nat) (body : StatusBody) (s : State), s.hears a b station (.status body) → ∃ t,
    exec (.statusReceived a b) s = .next t ∧ s.frameOnly t ∧
    let held := s.heldForUs body
    let notAwarded : Prop := ∀ h ∈ s.sister.handOffs, ∀ p ∈ h.tags, p.2 ≠ some station
    let servesNone : Prop := ∀ r ∈ s.sister.standing, body.serves r = false
    let lendsNone : Prop := ∀ e ∈ s.sister.lent, e.holder ≠ station
    (notAwarded → servesNone → lendsNone → held = [] →
      let marked (e : OpEntry) : Bool := e.lender == some station && e.mark.isNone &&
        body.reclaim.any fun g => s.groupOfSlot e.slot == some g || (s.groupOfSlot e.slot).isNone
      let pairs := (s.sister.opList.filter marked).map OpEntry.op
      let leaves (e : OpEntry) : Bool := (marked e || e.mark.isSome) && decide (e.op ∈ pairs)
      t.sister.lent = s.sister.lent ∧
      (s.sister.part ≠ none → t.link.frames = s.link.frames ∧ t.sister.opList = s.sister.opList.map fun e =>
        if marked e then { e with mark := some .reclaim } else e) ∧
      (s.sister.part = none → t.sister.opList = s.sister.opList.filter (fun e => !leaves e) ∧
        (∀ e ∈ s.sister.opList, leaves e = true → t.tellsBack e.lender [e.op]) ∧
        ((∀ e ∈ s.sister.opList, e.mark = none) → pairs ≠ [] →
          offersFrame s t (.release station pairs)))) ∧
    (notAwarded → servesNone → body.reclaim = [] →
      (∀ op ∈ held, ∃ e ∈ s.sister.lent, e.op = op ∧ e.holder = station) →
      let given := s.sister.lent.filter fun e => e.holder == station && !decide (e.op ∈ held)
      let home := given.take (24 - s.sister.occupancy)
      t.sister.lent = home.foldl List.erase s.sister.lent ∧
      t.sister.opList = s.sister.opList ++ home.map s.homeEntry ∧
      (s.sister.occupancy + given.length ≤ 24 →
        t.sister.lent = s.sister.lent.filter fun e => !(e.holder == station && !decide (e.op ∈ held))) ∧
      (home ≠ [] → t.tellsBack (some station) (home.map LentEntry.op))) ∧
    (notAwarded → servesNone → lendsNone → body.reclaim = [] → ∀ e, held = [e.op] → s.sister.isLent e.op = false →
      s.sister.entry e.op = some e → e.lender = none → e.status ≠ .handing →
      (s.sister.homecoming station e.op = none → ∀ g, s.lendingGroup e = some g → 1 ≤ s.sister.lentRoom →
        t.sister.opList = s.sister.opList.erase e ∧
        t.sister.lent = s.sister.lent ++ [{ op := e.op, cls := e.cls, group := g, holder := station }] ∧
        ∃ n : SwapNotice, n.kind = .opsOut ∧ n.peer = some station ∧ n.moved = [e.op] ∧
          t.tellsNotice (.swapNotice n)) ∧
      ∀ a, s.sister.homecoming station e.op = some a →
        t.sister.opList = s.sister.opList ∧ t.sister.lent = s.sister.lent ∧
        (a.sent = true → offersFrame s t (.taken station a.tag)) ∧
        (a.sent = false → t.link.frames = s.link.frames)) ∧
    (∀ h, s.sister.handOffs = [h] → h.awarded = some station → s.sister.stillHanding h = true →
      (∀ op, op ∈ h.pairs ↔ op ∈ held) → servesNone → lendsNone → body.reclaim = [] →
      (∀ e ∈ s.sister.opList, e.slot = h.slot → e.status = .active → e.op ∈ h.pairs) →
      (∀ q ∈ s.sister.triggers, q.group ≠ h.group) →
      t.sister.handOffs = [] ∧ t.sister.opList = s.sister.opList.filter (fun e => !decide (e.op ∈ h.pairs)) ∧
      t.sister.lent = s.sister.lent ++ (match h.lender with
        | none => h.batch.map fun o => { op := o.op, cls := o.cls, group := h.group, holder := station }
        | some _ => [])) ∧
    (notAwarded → lendsNone → body.reclaim = [] → held = [] → ∀ r, s.sister.standing = [r] →
      let batch := r.pairs.filterMap fun op => match s.sister.entry op with
        | some e => if e.status = .handing then none else some (⟨e.op, e.cls⟩ : BatchOp)
        | none => none
      let heardOf : Prop := match s.sister.peer station with
        | some p => p.live = true
        | none => s.sister.peers.length < 15
      let restarts := heardOf ∧ body.serves r = true ∧ (r.lender = none ∨ r.lender = some station) ∧
        s.station = .running ∧ s.sister.openOf r.group = none ∧ (r.lender = none → 1 ≤ s.sister.lentRoom)
      (¬ restarts → t.sister.standing = [r] ∧ t.sister.opList = s.sister.opList ∧
        t.sister.handOffs = s.sister.handOffs) ∧
      (restarts → batch = [] → t.sister.standing = [] ∧ t.sister.opList = s.sister.opList ∧
        t.sister.handOffs = s.sister.handOffs) ∧
      (restarts → batch ≠ [] →
        let trigger : Trigger := { slot := r.slot, group := r.group, seat := r.seat, kind := r.trigger }
        let first := batch.take (if r.lender = none then min 12 s.sister.lentRoom else 12)
        let x := { s with sister := { s.sister with standing := [] } }
        let u := x.openedFor trigger r.lender first
        (s.link.framesHeld < 8 →
          t.sister.standing = [] ∧ t.sister.opList = u.sister.opList ∧ t.sister.handOffs = u.sister.handOffs ∧
          t.sister.tag = u.sister.tag ∧ t.link.frames = u.link.frames) ∧
        (8 ≤ s.link.framesHeld → u.failsAlone (s.firstRound trigger r.lender first) →
          (x.openedFull trigger r.lender first).sister.heardAs t ∧ t.link.frames = s.link.frames ∧
          t.tellsFailed (s.firstRound trigger r.lender first) ∧ t.tellsNotice (.linkNotice (.queueFull .call)))))

/-- A trigger of a tool slot is taken by its case. Without a group the free operations become ORPHAN and NO_SISTER names
them. A BREAK escalates the slot's open WEAR hand-off, and otherwise removes the slot's standing WEAR records. With no
free operation nothing more follows. While a hand-off of the group is open the trigger joins the trigger queue, where a
slot keeps its earlier one but for a BREAK. With a sound wheel of the group at the other wheelhead the operations go there
with a LOCAL notice. Otherwise a hand-off opens: its batch is the first operations of one lender, HANDING, and its first
CALL waits under a new tag; without lent room, or with the transmit queue full for its CALLs, it stands FAILED at once. A
report of a tool's new state takes the trigger of Table 10-3 (R129, R155, R156, R157, R166, R167; that a BREAK with WEAR
hand-offs of two groups escalates the first, and that a BREAK replaces a waiting trigger in its place, are the model's
choices, log entries 34 and 35, and so is that NO_SISTER and the standing record name the whole batch, log entry 53). -/
def Obligations.TriggersMoveOperations : Prop :=
  (∀ (slot : Fin 8) (seat : Seat) (kind : TriggerKind) (s : State),
    let pairs := (s.sister.freeOps slot).map OpEntry.op
    let t := s.takeTrigger slot none seat kind
    (pairs = [] → t = s) ∧
    (pairs ≠ [] →
      { s with sister := { s.sister with opList := s.sister.opList.map fun (e : OpEntry) =>
          if e.op ∈ pairs then { e with status := .orphan } else e } }.messagesOnly t ∧
      t.tellsNotice (.swapNotice
        { kind := .noSister, group := none, slot := some slot, slot2 := none, peer := none, moved := pairs
          dropped := [] }))) ∧
  (∀ (slot : Fin 8) (g : Nat) (seat : Seat) (h : HandOff) (s : State),
    s.sister.handOffs.find? (fun k => k.slot == slot && k.trigger == .wear) = some h →
    let next := s.laterRound h .break 1
    let award : List QueuedFrame := if h.awarded = none then [] else [(FrameBody.award h.tag h.group none).fresh]
    let entered : State := { s with
      sister := { s.sister with
        tag := s.sister.tag + 1, handOffs := s.sister.handOffs.map fun k => if k.group = h.group then next else k }
      link := { s.link with queue := s.link.queue ++ award.take (8 - s.link.framesHeld) } }
    let t := s.takeTrigger slot (some g) seat .break
    (s.link.framesHeld + award.length < 8 →
      t = { entered with link := { entered.link with queue := entered.link.queue ++ [s.callFrame next] } }) ∧
    (8 ≤ s.link.framesHeld + award.length → entered.failsAlone next →
      (entered.failedFull next).messagesOnly t ∧ t.tellsFailed next ∧
      t.tellsNotice (.linkNotice (.queueFull .call)))) ∧
  (∀ (trigger : Trigger) (s : State),
    (trigger.kind = .break → ∀ h ∈ s.sister.handOffs, ¬ (h.slot = trigger.slot ∧ h.trigger = .wear)) →
    let x := { s with sister := { s.sister with
      standing := if trigger.kind = .break then
          s.sister.standing.filter fun r => !(r.slot == trigger.slot && r.trigger == .wear)
        else s.sister.standing } }
    let free := x.sister.freeOps trigger.slot
    let moved := free.map OpEntry.op
    let t := s.takeTrigger trigger.slot (some trigger.group) trigger.seat trigger.kind
    let sisterAt (slot : Fin 8) : Prop := ∃ n tool, trigger.seat = .wheelhead n ∧
      s.wheelAt (otherHead n) = some slot ∧ s.tools.get slot = some tool ∧ tool.group = some trigger.group ∧
      (tool.state = .fresh ∨ tool.state = .inService)
    (free = [] → t = x) ∧
    (free ≠ [] → s.sister.openOf trigger.group ≠ none →
      t = { x with sister := { x.sister with
        triggers := if ∃ q ∈ s.sister.triggers, q.slot = trigger.slot then
            s.sister.triggers.map fun q => if q.slot = trigger.slot ∧ trigger.kind = .break then trigger else q
          else s.sister.triggers ++ [trigger] } }) ∧
    (free ≠ [] → s.sister.openOf trigger.group = none → (∀ q ∈ s.sister.triggers, q.group ≠ trigger.group) →
      (∀ slot, sisterAt slot →
        { x with sister := { x.sister with opList := x.sister.opList.map fun (e : OpEntry) =>
            if e.op ∈ moved then { e with slot := slot, status := .active } else e } }.messagesOnly t ∧
        t.tellsNotice (.swapNotice
          { kind := .local, group := some trigger.group, slot := some trigger.slot, slot2 := some slot, peer := none
            moved := moved, dropped := [] })) ∧
      ((∀ slot, ¬ sisterAt slot) → ∀ e rest, free = e :: rest →
        let alike := (free.filter fun k => k.lender == e.lender).map fun k => (⟨k.op, k.cls⟩ : BatchOp)
        ((e.lender = none → 1 ≤ s.sister.lentRoom) →
          let batch := alike.take (if e.lender = none then min 12 s.sister.lentRoom else 12)
          let opened := x.firstRound trigger e.lender batch
          (s.link.framesHeld < 8 → t = x.openedFor trigger e.lender batch) ∧
          (8 ≤ s.link.framesHeld → (x.openedFor trigger e.lender batch).failsAlone opened →
            (x.openedFull trigger e.lender batch).messagesOnly t ∧ t.tellsFailed opened ∧
            t.tellsNotice (.linkNotice (.queueFull .call)))) ∧
        (e.lender = none → s.sister.lentRoom = 0 → s.sister.part ≠ none →
          let pairs := (alike.take 12).map BatchOp.op
          let record : Standing :=
            { group := trigger.group, slot := trigger.slot, seat := trigger.seat, trigger := trigger.kind, lender := none
              pairs := pairs, needPlaces := pairs.length, needLife := s.figures.needLife (alike.take 12) }
          { x with sister := { x.sister with
            opList := x.sister.opList.map fun (k : OpEntry) =>
              if k.op ∈ pairs then { k with status := if trigger.kind = TriggerKind.wear then OpStatus.active else .orphan } else k
            standing := x.sister.standing ++ [record] } }.messagesOnly t ∧
          t.tellsNotice (.swapNotice
            { kind := .noSister, group := some trigger.group, slot := some trigger.slot, slot2 := none, peer := none
              moved := pairs, dropped := [] }))))) ∧
  ∀ (slot : Fin 8) (before : ToolState) (tool : Tool) (s : State), s.tools.get slot = some tool →
    let t := s.reportState slot before
    (tool.state = before → t = s) ∧
    (tool.state ≠ before → t.sister.mark = true) ∧
    (tool.state = .broken → before ≠ .broken →
      ({ s with sister := { s.sister with
        reservations := s.sister.reservations.set slot none } }.takeTrigger slot tool.group tool.seat .break).sameSisters t) ∧
    ((before = .fresh ∨ before = .inService) ∧ (tool.state = .worn ∨ tool.state = .spent) ∨
        before = .worn ∧ tool.state = .spent →
      (s.takeTrigger slot tool.group tool.seat .wear).sameSisters t) ∧
    (before = .fresh → tool.state = .inService → s.sameSisters t)

/-- The expiries of the timers, each bringing the clock to its moment (log entry 3). Silence makes every peer STALE, tells
SILENT and begins the silent condition. A LIVE entry whose age reaches three periods becomes STALE; one whose age reaches
ten leaves the view, and its station's lent operations come home ORPHAN in order while there is room, the rest dropped,
with HOLDER_LOST (R139, R148, R151). In RUNNING with no STATUS being sent, the period timer's expiry and the end of the 10
ms with the mark set offer a STATUS: it takes the place of a waiting one with its attempt count, or joins with count 0,
clears the mark and restarts the timer (R130, R142, R145). Window expiry awards the best offer, or with none calls the
next round below round 3, as the award timer's expiry does: a CALL waits under the new tag (R161, R164). At round 3, or
with the transmit queue full, which discards the AWARD and each CALL at its offer with QUEUE_FULL (R129), the hand-off
ends FAILED with NO_SISTER: a standing record stands in its place, its batch ACTIVE after WEAR and ORPHAN otherwise, and
nothing follows where no operation leaves or is free and no trigger waits (R161, R164, R166). A reservation's expiry
releases its tool and marks the status changed (R159). Nothing else changes but an offer of a STATUS that is due (that the
mark is set at the removal of a peer whenever lent entries name it, all dropped or not, is the model's, log entry 21, and
so is that NO_SISTER and the standing record name the whole batch, log entry 53). -/
def Obligations.TimersExpire : Prop :=
  (∀ (moment : Nat) (s : State), s.link.silence = some moment → ∃ t,
    exec .silenceTimerExpiry s = .next t ∧
    { s with
      clock := max s.clock moment
      sister := { s.sister with peers := s.sister.peers.map fun (p : Peer) => { p with live := false } }
      link := { s.link with silence := none, silent := true } }.messagesOnly t ∧
    t.tellsNotice (.linkNotice .silent)) ∧
  (∀ (station : Nat) (p : Peer) (s : State), s.sister.peer station = some p → p.live = true →
    exec (.peerStale station) s = .next
      { s with
        clock := max s.clock (p.heardAt + 3 * (2 * p.status.period))
        sister := { s.sister with
          peers := s.sister.peers.map fun q => if q.station == station then { q with live := false } else q } }) ∧
  (∀ (station : Nat) (p : Peer) (s : State), s.sister.peer station = some p → ∃ t,
    exec (.peerRemoved station) s = .next t ∧
    let theirs := s.sister.lent.filter fun e => e.holder == station
    let home := (theirs.take (24 - s.sister.occupancy)).map fun e => { s.homeEntry e with status := .orphan }
    { s with
      clock := max s.clock (p.heardAt + 10 * (2 * p.status.period))
      sister := { s.sister with
        peers := s.sister.peers.filter (fun q => q.station != station), viewFull := false
        lent := s.sister.lent.filter (fun e => e.holder != station), opList := s.sister.opList ++ home
        mark := s.sister.mark || !theirs.isEmpty } }.messagesAndStatus t ∧
    (theirs ≠ [] → ∃ n : SwapNotice, n.kind = .holderLost ∧ n.peer = some station ∧ n.moved = home.map OpEntry.op ∧
      n.dropped = (theirs.drop (24 - s.sister.occupancy)).map LentEntry.op ∧ t.tellsNotice (.swapNotice n))) ∧
  (∀ (i : Instr) (moment : Nat) (s : State), s.station = .running → s.link.statusSending = false →
    (i = .statusPeriodExpiry ∧ s.sister.period = some moment ∨
      i = .statusChangeOffer ∧ s.sister.mark = true ∧ ∃ sent, s.sister.lastSent = some sent ∧ moment = sent + 20) →
    exec i s = .next
      { s with
        clock := max s.clock moment
        sister := { s.sister with
          mark := false, period := some (max s.clock moment + 2 * s.figures.statusPeriod) }
        link := { s.link with
          queue := s.link.queue.filter (fun f => !f.body.isStatus) ++
            [{ body := .status s.statusBody
               attempts := match s.link.queue.find? fun f => f.body.isStatus with
                 | some waiting => waiting.attempts
                 | none => 0
               sending := false }] } }) ∧
  (∀ (group moment : Nat) (h : HandOff) (s : State), s.sister.openOf group = some h → h.timer = some moment →
    (s.link.framesHeld < 8 → h.phase = .calling → ∀ best rest, h.offers = best :: rest → ∃ t,
      exec (.windowExpiry group) s = .next t ∧
      let awarding := { h with phase := .awarding best.station, timer := none }
      let award : QueuedFrame := { body := .award h.tag group (some best.station), attempts := 0, sending := false }
      { s with
        clock := max s.clock moment
        sister := { s.sister with
          handOffs := s.sister.handOffs.map fun (k : HandOff) => if k.group = group then awarding else k }
        link := { s.link with queue := s.link.queue ++ [award] } }.statusOnly t) ∧
    ∀ i, (i = .windowExpiry group ∧ h.phase = .calling ∧ (h.offers = [] ∨ 8 ≤ s.link.framesHeld)) ∨
        (i = .awardTimerExpiry group ∧ ∃ station, h.phase = .awarding station) → ∃ t, exec i s = .next t ∧
      (s.link.framesHeld < 8 → h.round < 3 → ({ s with clock := max s.clock moment }.calledAgain h).statusOnly t) ∧
      (3 ≤ h.round ∨ 8 ≤ s.link.framesHeld → s.failsAlone h →
        ({ s with clock := max s.clock moment }.failedFull h).messagesAndStatus t ∧ t.tellsFailed h) ∧
      (8 ≤ s.link.framesHeld → i = .windowExpiry group → h.offers ≠ [] →
        t.tellsNotice (.linkNotice (.queueFull .award))) ∧
      (8 ≤ s.link.framesHeld → h.round < 3 → s.failsAlone h → t.tellsNotice (.linkNotice (.queueFull .call)))) ∧
  ∀ (slot : Fin 8) (r : Reservation) (s : State), s.sister.reservations.get slot = some r → ∃ t,
    exec (.reservationExpiry slot) s = .next t ∧
    { s with
      clock := max s.clock r.expiry
      sister := { s.sister with reservations := s.sister.reservations.set slot none, mark := true } }.statusOnly t

/-- A group has at most one open hand-off, which never runs more than 3 rounds under one trigger, nor more than 6 in all,
in every state that a step reaches from one where this holds (R154, R157, R160, R161, R167). -/
def Obligations.HandOffsStaySound : Prop :=
  ∀ s t : State, s.sister.handOffsSound → step s = .next t → t.sister.handOffsSound
end

