-- ==== Sys2Proof/Laws/Blocks.lean ====
section
/-! SUPPORT. What one operation of a channel, of the envelope store and of the transmit queue can do, each said once: a hold
verdict, the arbiter of the flash port, and the offer of a frame. -/

namespace Sys2Proof.Machine

/-- A hold-class verdict keeps all of a journal but its contact run not yet declared (R36, R53). -/
theorem Journal.hold_eq (j : Journal) (v : HoldVerdict) : j.hold v = j.heldOn v := by
  unfold Journal.hold Journal.heldOn
  split <;> rename_i contacted <;> simp [contacted]

/-- An arbiter with a busy port starts nothing (R85). -/
theorem State.arbitrate_busy {s : State} (busy : s.store.port ≠ .idle) : s.arbitrate = s := by
  unfold State.arbitrate
  split
  · contradiction
  · rfl

/-- An idle port takes the front demand, or else the oldest pending write, or else the front prefetch, or nothing (R85). -/
theorem State.arbitrate_idle {s : State} (idle : s.store.port = .idle) :
    (∃ key rest, s.store.queue = ⟨key, .demand⟩ :: rest ∧ s.arbitrate = s.startFetch ⟨key, .demand⟩ rest) ∨
    ((∀ r, s.store.queue.head? = some r → r.kind = .prefetch) ∧
      ((∃ slot rest, s.store.pendingWrites = slot :: rest ∧ s.arbitrate = s.startWrite slot rest) ∨
        s.store.pendingWrites = [] ∧
          ((∃ r rest, s.store.queue = r :: rest ∧ s.arbitrate = s.startFetch r rest) ∨
            s.store.queue = [] ∧ s.arbitrate = s))) := by
  unfold State.arbitrate
  rw [idle]
  rcases s.store.queue with _ | ⟨⟨key, kind⟩, rest⟩
  · rcases s.store.pendingWrites with _ | ⟨slot, more⟩
    · exact .inr ⟨nofun, .inr ⟨rfl, .inr ⟨rfl, rfl⟩⟩⟩
    · exact .inr ⟨nofun, .inl ⟨_, _, rfl, rfl⟩⟩
  · cases kind
    · exact .inl ⟨_, _, rfl, rfl⟩
    · rcases s.store.pendingWrites with _ | ⟨slot, more⟩
      · exact .inr ⟨by simp, .inr ⟨rfl, .inl ⟨_, _, rfl, rfl⟩⟩⟩
      · exact .inr ⟨by simp, .inl ⟨_, _, rfl, rfl⟩⟩

/-- A frame offered to a transmit queue with room joins it at the back; a full queue discards it with QUEUE_FULL (R129). -/
theorem State.offerFrame_eq (s : State) (body : FrameBody) :
    s.offerFrame body =
      if s.link.framesHeld < 8 then (s.setLink { s.link with queue := s.link.queue ++ [body.fresh] }, false)
      else (s.sendLinkNotice (.queueFull body.kind), true) := rfl

end Sys2Proof.Machine
end

