-- ==== Sys2Proof/Laws/State.lean ====
section
/-! SUPPORT. One lemma for each block of State under each of its updates, true by rfl, and the laws of the two-valued
containers; no later proof unfolds a record update. -/

namespace Sys2Proof.Machine

variable (s : State)

@[simp] theorem State.setTool_station (slot : Fin 8) (t : Option Tool) : (s.setTool slot t).station = s.station := rfl
@[simp] theorem State.setTool_config (slot : Fin 8) (t : Option Tool) : (s.setTool slot t).config = s.config := rfl
@[simp] theorem State.setTool_tools (slot : Fin 8) (t : Option Tool) : (s.setTool slot t).tools = s.tools.set slot t := rfl
@[simp] theorem State.setTool_counters (slot : Fin 8) (t : Option Tool) : (s.setTool slot t).counters = s.counters := rfl
@[simp] theorem State.setTool_sampler (slot : Fin 8) (t : Option Tool) : (s.setTool slot t).sampler = s.sampler := rfl
@[simp] theorem State.setTool_channels (slot : Fin 8) (t : Option Tool) : (s.setTool slot t).channels = s.channels := rfl
@[simp] theorem State.setTool_store (slot : Fin 8) (t : Option Tool) : (s.setTool slot t).store = s.store := rfl
@[simp] theorem State.setTool_sister (slot : Fin 8) (t : Option Tool) : (s.setTool slot t).sister = s.sister := rfl
@[simp] theorem State.setTool_link (slot : Fin 8) (t : Option Tool) : (s.setTool slot t).link = s.link := rfl
@[simp] theorem State.setTool_port (slot : Fin 8) (t : Option Tool) : (s.setTool slot t).port = s.port := rfl
@[simp] theorem State.setTool_clock (slot : Fin 8) (t : Option Tool) : (s.setTool slot t).clock = s.clock := rfl
@[simp] theorem State.setTool_freeDraws (slot : Fin 8) (t : Option Tool) : (s.setTool slot t).freeDraws = s.freeDraws := rfl
@[simp] theorem State.setTool_pending (slot : Fin 8) (t : Option Tool) : (s.setTool slot t).pending = s.pending := rfl

@[simp] theorem State.setCounter_station (n : Wheelhead) (c : Counter) : (s.setCounter n c).station = s.station := rfl
@[simp] theorem State.setCounter_config (n : Wheelhead) (c : Counter) : (s.setCounter n c).config = s.config := rfl
@[simp] theorem State.setCounter_tools (n : Wheelhead) (c : Counter) : (s.setCounter n c).tools = s.tools := rfl
@[simp] theorem State.setCounter_counters (n : Wheelhead) (c : Counter) : (s.setCounter n c).counters = s.counters.set n c := rfl
@[simp] theorem State.setCounter_sampler (n : Wheelhead) (c : Counter) : (s.setCounter n c).sampler = s.sampler := rfl
@[simp] theorem State.setCounter_channels (n : Wheelhead) (c : Counter) : (s.setCounter n c).channels = s.channels := rfl
@[simp] theorem State.setCounter_store (n : Wheelhead) (c : Counter) : (s.setCounter n c).store = s.store := rfl
@[simp] theorem State.setCounter_sister (n : Wheelhead) (c : Counter) : (s.setCounter n c).sister = s.sister := rfl
@[simp] theorem State.setCounter_link (n : Wheelhead) (c : Counter) : (s.setCounter n c).link = s.link := rfl
@[simp] theorem State.setCounter_port (n : Wheelhead) (c : Counter) : (s.setCounter n c).port = s.port := rfl
@[simp] theorem State.setCounter_clock (n : Wheelhead) (c : Counter) : (s.setCounter n c).clock = s.clock := rfl
@[simp] theorem State.setCounter_freeDraws (n : Wheelhead) (c : Counter) : (s.setCounter n c).freeDraws = s.freeDraws := rfl
@[simp] theorem State.setCounter_pending (n : Wheelhead) (c : Counter) : (s.setCounter n c).pending = s.pending := rfl

@[simp] theorem State.setChannel_station (n : Wheelhead) (c : Channel) : (s.setChannel n c).station = s.station := rfl
@[simp] theorem State.setChannel_config (n : Wheelhead) (c : Channel) : (s.setChannel n c).config = s.config := rfl
@[simp] theorem State.setChannel_tools (n : Wheelhead) (c : Channel) : (s.setChannel n c).tools = s.tools := rfl
@[simp] theorem State.setChannel_counters (n : Wheelhead) (c : Channel) : (s.setChannel n c).counters = s.counters := rfl
@[simp] theorem State.setChannel_sampler (n : Wheelhead) (c : Channel) : (s.setChannel n c).sampler = s.sampler := rfl
@[simp] theorem State.setChannel_channels (n : Wheelhead) (c : Channel) : (s.setChannel n c).channels = s.channels.set n c := rfl
@[simp] theorem State.setChannel_store (n : Wheelhead) (c : Channel) : (s.setChannel n c).store = s.store := rfl
@[simp] theorem State.setChannel_sister (n : Wheelhead) (c : Channel) : (s.setChannel n c).sister = s.sister := rfl
@[simp] theorem State.setChannel_link (n : Wheelhead) (c : Channel) : (s.setChannel n c).link = s.link := rfl
@[simp] theorem State.setChannel_port (n : Wheelhead) (c : Channel) : (s.setChannel n c).port = s.port := rfl
@[simp] theorem State.setChannel_clock (n : Wheelhead) (c : Channel) : (s.setChannel n c).clock = s.clock := rfl
@[simp] theorem State.setChannel_freeDraws (n : Wheelhead) (c : Channel) : (s.setChannel n c).freeDraws = s.freeDraws := rfl
@[simp] theorem State.setChannel_pending (n : Wheelhead) (c : Channel) : (s.setChannel n c).pending = s.pending := rfl

@[simp] theorem State.setActivity_station (n : Wheelhead) (a : Activity) : (s.setActivity n a).station = s.station := rfl
@[simp] theorem State.setActivity_config (n : Wheelhead) (a : Activity) : (s.setActivity n a).config = s.config := rfl
@[simp] theorem State.setActivity_tools (n : Wheelhead) (a : Activity) : (s.setActivity n a).tools = s.tools := rfl
@[simp] theorem State.setActivity_counters (n : Wheelhead) (a : Activity) : (s.setActivity n a).counters = s.counters := rfl
@[simp] theorem State.setActivity_sampler (n : Wheelhead) (a : Activity) : (s.setActivity n a).sampler = s.sampler := rfl
@[simp] theorem State.setActivity_channels (n : Wheelhead) (a : Activity) : (s.setActivity n a).channels = s.channels.set n { s.channels.get n with activity := a } := rfl
@[simp] theorem State.setActivity_store (n : Wheelhead) (a : Activity) : (s.setActivity n a).store = s.store := rfl
@[simp] theorem State.setActivity_sister (n : Wheelhead) (a : Activity) : (s.setActivity n a).sister = s.sister := rfl
@[simp] theorem State.setActivity_link (n : Wheelhead) (a : Activity) : (s.setActivity n a).link = s.link := rfl
@[simp] theorem State.setActivity_port (n : Wheelhead) (a : Activity) : (s.setActivity n a).port = s.port := rfl
@[simp] theorem State.setActivity_clock (n : Wheelhead) (a : Activity) : (s.setActivity n a).clock = s.clock := rfl
@[simp] theorem State.setActivity_freeDraws (n : Wheelhead) (a : Activity) : (s.setActivity n a).freeDraws = s.freeDraws := rfl
@[simp] theorem State.setActivity_pending (n : Wheelhead) (a : Activity) : (s.setActivity n a).pending = s.pending := rfl

@[simp] theorem State.setTeach_station (n : Wheelhead) (b : Option TeachBuffer) : (s.setTeach n b).station = s.station := rfl
@[simp] theorem State.setTeach_config (n : Wheelhead) (b : Option TeachBuffer) : (s.setTeach n b).config = s.config := rfl
@[simp] theorem State.setTeach_tools (n : Wheelhead) (b : Option TeachBuffer) : (s.setTeach n b).tools = s.tools := rfl
@[simp] theorem State.setTeach_counters (n : Wheelhead) (b : Option TeachBuffer) : (s.setTeach n b).counters = s.counters := rfl
@[simp] theorem State.setTeach_sampler (n : Wheelhead) (b : Option TeachBuffer) : (s.setTeach n b).sampler = s.sampler := rfl
@[simp] theorem State.setTeach_channels (n : Wheelhead) (b : Option TeachBuffer) : (s.setTeach n b).channels = s.channels.set n { s.channels.get n with teach := b } := rfl
@[simp] theorem State.setTeach_store (n : Wheelhead) (b : Option TeachBuffer) : (s.setTeach n b).store = s.store := rfl
@[simp] theorem State.setTeach_sister (n : Wheelhead) (b : Option TeachBuffer) : (s.setTeach n b).sister = s.sister := rfl
@[simp] theorem State.setTeach_link (n : Wheelhead) (b : Option TeachBuffer) : (s.setTeach n b).link = s.link := rfl
@[simp] theorem State.setTeach_port (n : Wheelhead) (b : Option TeachBuffer) : (s.setTeach n b).port = s.port := rfl
@[simp] theorem State.setTeach_clock (n : Wheelhead) (b : Option TeachBuffer) : (s.setTeach n b).clock = s.clock := rfl
@[simp] theorem State.setTeach_freeDraws (n : Wheelhead) (b : Option TeachBuffer) : (s.setTeach n b).freeDraws = s.freeDraws := rfl
@[simp] theorem State.setTeach_pending (n : Wheelhead) (b : Option TeachBuffer) : (s.setTeach n b).pending = s.pending := rfl

@[simp] theorem State.setStore_station (x : Store) : (s.setStore x).station = s.station := rfl
@[simp] theorem State.setStore_config (x : Store) : (s.setStore x).config = s.config := rfl
@[simp] theorem State.setStore_tools (x : Store) : (s.setStore x).tools = s.tools := rfl
@[simp] theorem State.setStore_counters (x : Store) : (s.setStore x).counters = s.counters := rfl
@[simp] theorem State.setStore_sampler (x : Store) : (s.setStore x).sampler = s.sampler := rfl
@[simp] theorem State.setStore_channels (x : Store) : (s.setStore x).channels = s.channels := rfl
@[simp] theorem State.setStore_store (x : Store) : (s.setStore x).store = x := rfl
@[simp] theorem State.setStore_sister (x : Store) : (s.setStore x).sister = s.sister := rfl
@[simp] theorem State.setStore_link (x : Store) : (s.setStore x).link = s.link := rfl
@[simp] theorem State.setStore_port (x : Store) : (s.setStore x).port = s.port := rfl
@[simp] theorem State.setStore_clock (x : Store) : (s.setStore x).clock = s.clock := rfl
@[simp] theorem State.setStore_freeDraws (x : Store) : (s.setStore x).freeDraws = s.freeDraws := rfl
@[simp] theorem State.setStore_pending (x : Store) : (s.setStore x).pending = s.pending := rfl

@[simp] theorem State.setSister_station (x : Sister) : (s.setSister x).station = s.station := rfl
@[simp] theorem State.setSister_config (x : Sister) : (s.setSister x).config = s.config := rfl
@[simp] theorem State.setSister_tools (x : Sister) : (s.setSister x).tools = s.tools := rfl
@[simp] theorem State.setSister_counters (x : Sister) : (s.setSister x).counters = s.counters := rfl
@[simp] theorem State.setSister_sampler (x : Sister) : (s.setSister x).sampler = s.sampler := rfl
@[simp] theorem State.setSister_channels (x : Sister) : (s.setSister x).channels = s.channels := rfl
@[simp] theorem State.setSister_store (x : Sister) : (s.setSister x).store = s.store := rfl
@[simp] theorem State.setSister_sister (x : Sister) : (s.setSister x).sister = x := rfl
@[simp] theorem State.setSister_link (x : Sister) : (s.setSister x).link = s.link := rfl
@[simp] theorem State.setSister_port (x : Sister) : (s.setSister x).port = s.port := rfl
@[simp] theorem State.setSister_clock (x : Sister) : (s.setSister x).clock = s.clock := rfl
@[simp] theorem State.setSister_freeDraws (x : Sister) : (s.setSister x).freeDraws = s.freeDraws := rfl
@[simp] theorem State.setSister_pending (x : Sister) : (s.setSister x).pending = s.pending := rfl

@[simp] theorem State.setLink_station (x : Link) : (s.setLink x).station = s.station := rfl
@[simp] theorem State.setLink_config (x : Link) : (s.setLink x).config = s.config := rfl
@[simp] theorem State.setLink_tools (x : Link) : (s.setLink x).tools = s.tools := rfl
@[simp] theorem State.setLink_counters (x : Link) : (s.setLink x).counters = s.counters := rfl
@[simp] theorem State.setLink_sampler (x : Link) : (s.setLink x).sampler = s.sampler := rfl
@[simp] theorem State.setLink_channels (x : Link) : (s.setLink x).channels = s.channels := rfl
@[simp] theorem State.setLink_store (x : Link) : (s.setLink x).store = s.store := rfl
@[simp] theorem State.setLink_sister (x : Link) : (s.setLink x).sister = s.sister := rfl
@[simp] theorem State.setLink_link (x : Link) : (s.setLink x).link = x := rfl
@[simp] theorem State.setLink_port (x : Link) : (s.setLink x).port = s.port := rfl
@[simp] theorem State.setLink_clock (x : Link) : (s.setLink x).clock = s.clock := rfl
@[simp] theorem State.setLink_freeDraws (x : Link) : (s.setLink x).freeDraws = s.freeDraws := rfl
@[simp] theorem State.setLink_pending (x : Link) : (s.setLink x).pending = s.pending := rfl

@[simp] theorem State.setPort_station (x : Port) : (s.setPort x).station = s.station := rfl
@[simp] theorem State.setPort_config (x : Port) : (s.setPort x).config = s.config := rfl
@[simp] theorem State.setPort_tools (x : Port) : (s.setPort x).tools = s.tools := rfl
@[simp] theorem State.setPort_counters (x : Port) : (s.setPort x).counters = s.counters := rfl
@[simp] theorem State.setPort_sampler (x : Port) : (s.setPort x).sampler = s.sampler := rfl
@[simp] theorem State.setPort_channels (x : Port) : (s.setPort x).channels = s.channels := rfl
@[simp] theorem State.setPort_store (x : Port) : (s.setPort x).store = s.store := rfl
@[simp] theorem State.setPort_sister (x : Port) : (s.setPort x).sister = s.sister := rfl
@[simp] theorem State.setPort_link (x : Port) : (s.setPort x).link = s.link := rfl
@[simp] theorem State.setPort_port (x : Port) : (s.setPort x).port = x := rfl
@[simp] theorem State.setPort_clock (x : Port) : (s.setPort x).clock = s.clock := rfl
@[simp] theorem State.setPort_freeDraws (x : Port) : (s.setPort x).freeDraws = s.freeDraws := rfl
@[simp] theorem State.setPort_pending (x : Port) : (s.setPort x).pending = s.pending := rfl

@[simp] theorem State.markStatus_station : s.markStatus.station = s.station := rfl
@[simp] theorem State.markStatus_config : s.markStatus.config = s.config := rfl
@[simp] theorem State.markStatus_tools : s.markStatus.tools = s.tools := rfl
@[simp] theorem State.markStatus_counters : s.markStatus.counters = s.counters := rfl
@[simp] theorem State.markStatus_sampler : s.markStatus.sampler = s.sampler := rfl
@[simp] theorem State.markStatus_channels : s.markStatus.channels = s.channels := rfl
@[simp] theorem State.markStatus_store : s.markStatus.store = s.store := rfl
@[simp] theorem State.markStatus_sister : s.markStatus.sister = { s.sister with mark := true } := rfl
@[simp] theorem State.markStatus_link : s.markStatus.link = s.link := rfl
@[simp] theorem State.markStatus_port : s.markStatus.port = s.port := rfl
@[simp] theorem State.markStatus_clock : s.markStatus.clock = s.clock := rfl
@[simp] theorem State.markStatus_freeDraws : s.markStatus.freeDraws = s.freeDraws := rfl
@[simp] theorem State.markStatus_pending : s.markStatus.pending = s.pending := rfl

@[simp] theorem State.reach_station (moment : Nat) : (s.reach moment).station = s.station := rfl
@[simp] theorem State.reach_config (moment : Nat) : (s.reach moment).config = s.config := rfl
@[simp] theorem State.reach_tools (moment : Nat) : (s.reach moment).tools = s.tools := rfl
@[simp] theorem State.reach_counters (moment : Nat) : (s.reach moment).counters = s.counters := rfl
@[simp] theorem State.reach_sampler (moment : Nat) : (s.reach moment).sampler = s.sampler := rfl
@[simp] theorem State.reach_channels (moment : Nat) : (s.reach moment).channels = s.channels := rfl
@[simp] theorem State.reach_store (moment : Nat) : (s.reach moment).store = s.store := rfl
@[simp] theorem State.reach_sister (moment : Nat) : (s.reach moment).sister = s.sister := rfl
@[simp] theorem State.reach_link (moment : Nat) : (s.reach moment).link = s.link := rfl
@[simp] theorem State.reach_port (moment : Nat) : (s.reach moment).port = s.port := rfl
@[simp] theorem State.reach_clock (moment : Nat) : (s.reach moment).clock = max s.clock moment := rfl
@[simp] theorem State.reach_freeDraws (moment : Nat) : (s.reach moment).freeDraws = s.freeDraws := rfl
@[simp] theorem State.reach_pending (moment : Nat) : (s.reach moment).pending = s.pending := rfl

@[simp] theorem State.popInbound_station : s.popInbound.station = s.station := rfl
@[simp] theorem State.popInbound_config : s.popInbound.config = s.config := rfl
@[simp] theorem State.popInbound_tools : s.popInbound.tools = s.tools := rfl
@[simp] theorem State.popInbound_counters : s.popInbound.counters = s.counters := rfl
@[simp] theorem State.popInbound_sampler : s.popInbound.sampler = s.sampler := rfl
@[simp] theorem State.popInbound_channels : s.popInbound.channels = s.channels := rfl
@[simp] theorem State.popInbound_store : s.popInbound.store = s.store := rfl
@[simp] theorem State.popInbound_sister : s.popInbound.sister = s.sister := rfl
@[simp] theorem State.popInbound_link : s.popInbound.link = s.link := rfl
@[simp] theorem State.popInbound_port : s.popInbound.port = { s.port with inbound := s.port.inbound.tail } := rfl
@[simp] theorem State.popInbound_clock : s.popInbound.clock = s.clock := rfl
@[simp] theorem State.popInbound_freeDraws : s.popInbound.freeDraws = s.freeDraws := rfl
@[simp] theorem State.popInbound_pending : s.popInbound.pending = s.pending := rfl

@[simp] theorem PerHead.get_set_same {α : Type} (p : PerHead α) (n : Wheelhead) (x : α) : (p.set n x).get n = x := by
  cases n <;> rfl

theorem PerHead.get_set_other {α : Type} (p : PerHead α) {n k : Wheelhead} (x : α) (h : k ≠ n) :
    (p.set n x).get k = p.get k := by
  cases n <;> cases k <;> first | rfl | exact absurd rfl h

@[simp] theorem PerHead.set_get {α : Type} (p : PerHead α) (n : Wheelhead) : p.set n (p.get n) = p := by
  cases n <;> rfl

@[simp] theorem PerHead.set_set {α : Type} (p : PerHead α) (n : Wheelhead) (x y : α) : (p.set n x).set n y = p.set n y := by
  cases n <;> rfl

@[simp] theorem PerLine.get_set_same {α : Type} (p : PerLine α) (l : LineId) (x : α) : (p.set l x).get l = x := by
  cases l <;> rfl

theorem PerLine.get_set_other {α : Type} (p : PerLine α) {l k : LineId} (x : α) (h : k ≠ l) :
    (p.set l x).get k = p.get k := by
  cases l <;> cases k <;> first | rfl | exact absurd rfl h

@[simp] theorem vector_get_set_same {α : Type} {m : Nat} (v : Vector α m) (i : Fin m) (x : α) : (v.set i x).get i = x := by
  show (v.set i x)[(i : Nat)] = x
  simp

theorem vector_get_set_other {α : Type} {m : Nat} (v : Vector α m) {i k : Fin m} (x : α) (h : k ≠ i) :
    (v.set i x).get k = v.get k := by
  have ne : (i : Nat) ≠ k := fun e => h (Fin.ext e.symm)
  show (v.set i x)[(k : Nat)] = v[(k : Nat)]
  exact Vector.getElem_set_ne _ _ ne

end Sys2Proof.Machine
end

