-- ==== Sys2Proof/Laws/Frames.lean ====
section
/-! SUPPORT. What the copies of a frame do at the link controller: which copies a frame row ends, and when it has no effect. -/

namespace Sys2Proof.Machine

@[simp] theorem FrameLines.has_alone (line : LineId) : (FrameLines.alone line).has line = true := by cases line <;> rfl

@[simp] theorem FrameLines.has_alone_other (line : LineId) : (FrameLines.alone line).has (otherLine line) = false := by
  cases line <;> rfl

/-- The copies of a frame are those of the lines on which one began, and the others are absent (R134, R135). -/
theorem FrameLines.copies_eq (f : FrameLines) (a b : LineCopy) :
    f.copies a b = (if f.has .a then a else none, if f.has .b then b else none) := by cases f <;> rfl

/-- The frame that is taken is the oldest of which every begun copy has ended (R135). -/
theorem Link.endedFrame_split {l : Link} {a b : LineCopy} {f : FrameLines} (h : l.endedFrame a b = some f) :
    ∃ ahead behind, l.begun = ahead ++ f :: behind ∧
      (∀ x ∈ ahead, x.has .a = true ∧ a = none ∨ x.has .b = true ∧ b = none) ∧ (f.has .a = true → a.isSome = true) ∧
      (f.has .b = true → b.isSome = true) := by
  obtain ⟨ended, ahead, behind, split, before⟩ := List.find?_eq_some_iff_append.mp h
  refine ⟨ahead, behind, split, fun x mem => ?_, ?_, ?_⟩
  · have := before x mem
    cases a <;> cases b <;> cases ha : x.has .a <;> cases hb : x.has .b <;> simp_all
  · intro on; simp_all
  · intro on; simp_all

/-- No frame is taken while each one under way has a copy that has not ended (R134, R135). -/
theorem Link.endedFrame_none {l : Link} {a b : LineCopy} :
    l.endedFrame a b = none ↔ ∀ x ∈ l.begun, x.has .a = true ∧ a = none ∨ x.has .b = true ∧ b = none := by
  unfold Link.endedFrame
  rw [List.find?_eq_none]
  refine forall₂_congr fun x _ => ?_
  cases a <;> cases b <;> cases ha : x.has .a <;> cases hb : x.has .b <;> simp_all

/-- At most two frames are under way once a copy begins, and the newest has the copy (R135). -/
theorem joinFrame_cases (begun : List FrameLines) (line : LineId) (gap : Nat) :
    joinFrame begun line gap = [.alone line] ∨ joinFrame begun line gap = [.both] ∨
      ∃ f ∈ begun, f.has (otherLine line) = true ∧ joinFrame begun line gap = [f, .alone line] := by
  unfold joinFrame
  split
  · exact .inl rfl
  · rename_i f last
    have mem := List.mem_of_getLast? last
    simp only [List.mem_filter] at mem
    split
    · exact .inr (.inl rfl)
    · exact .inr (.inr ⟨f, mem.1, mem.2, rfl⟩)

@[simp] theorem Link.receive_queue (l : Link) (line : LineId) (edge : Edge) :
    (l.receive line edge).queue = l.queue := rfl
@[simp] theorem Link.receive_quietTime (l : Link) (line : LineId) (edge : Edge) :
    (l.receive line edge).quietTime = l.quietTime := rfl
@[simp] theorem Link.receive_silence (l : Link) (line : LineId) (edge : Edge) :
    (l.receive line edge).silence = l.silence := rfl
@[simp] theorem Link.receive_silent (l : Link) (line : LineId) (edge : Edge) :
    (l.receive line edge).silent = l.silent := rfl
@[simp] theorem Link.receive_duplicate (l : Link) (line : LineId) (edge : Edge) :
    (l.receive line edge).duplicate = l.duplicate := rfl

/-- A pattern that the receiver does not look for begins no copy (R134). -/
theorem Link.receive_deaf {l : Link} {line : LineId} {edge : Edge} (deaf : (l.lines.get line).looking = false)
    (busy : edge.quiet = false) : (l.receive line edge).begun = l.begun := by
  cases h : edge.pattern <;> simp [Link.receive, deaf, busy, h]

/-- A frame row has no effect when no copy it brings ends a frame (R134, R135; log entry 14). -/
theorem State.takeFrame_none {s : State} {a b : LineCopy} (h : s.link.endedFrame a b = none) : s.takeFrame a b = s := by
  unfold State.takeFrame
  split
  · rfl
  · simp [h]

/-- A frame that is taken is no longer under way, moves the lines, and then delivers the selected copy if there is one
(R135). -/
theorem State.takeFrame_some {s : State} {a b x y : LineCopy} {f : FrameLines} (conf : s.station ≠ .unconfigured)
    (idle : s.link.isSending = false) (h : s.link.endedFrame a b = some f) (copies : f.copies a b = (x, y)) :
    let moved := (s.setLink { s.link with begun := s.link.begun.erase f }).updateLines (judgeCopy x).isSome
      (judgeCopy y).isSome
    s.takeFrame a b = s.finish (match s.link.select x y with
      | some c => moved.acceptCopy c
      | none => moved) := by
  unfold State.takeFrame
  rw [if_neg (by simp [conf, idle])]
  simp only [h, copies]
  cases s.link.select x y <;> rfl

end Sys2Proof.Machine
end

