-- ==== Sys2Proof/Laws/PerInstr.lean ====
section
/-! SUPPORT. What holds of every command as syntax, one lemma for each constructor: the message that a well-formed request
makes is read as that request again, and one that spells no request is read as none. -/

namespace Sys2Proof.Laws

/-- A 32-bit field is read as it was written (section 11.8). -/
theorem word32_bytes (w : BitVec 32) :
    word32 (w.extractLsb' 24 8) (w.extractLsb' 16 8) (w.extractLsb' 8 8) (w.extractLsb' 0 8) = w := by
  unfold word32
  rw [BitVec.extractLsb'_append_extractLsb'_eq_extractLsb' (start₁ := 16) (start₂ := 24) (len₁ := 8) rfl,
    BitVec.extractLsb'_append_extractLsb'_eq_extractLsb' (start₁ := 8) (start₂ := 16) (len₁ := 8) rfl,
    BitVec.extractLsb'_append_extractLsb'_eq_extractLsb' (start₁ := 0) (start₂ := 8) (len₁ := 8) rfl]
  exact BitVec.extractLsb'_eq_self

/-- A 16-bit field is read as it was written (section 11.8). -/
theorem word16_bytes (w : BitVec 16) : word16 (w.extractLsb' 8 8) (w.extractLsb' 0 8) = w := by
  unfold word16
  rw [BitVec.extractLsb'_append_extractLsb'_eq_extractLsb' (start₁ := 0) (start₂ := 8) (len₁ := 8) rfl]
  exact BitVec.extractLsb'_eq_self

/-- A figure list is read as it was written (R177). -/
theorem figureList_bytes (figures : List (Byte × BitVec 32)) : figureList (figureBytes figures) = some figures := by
  induction figures with
  | nil => rfl
  | cons f rest ih => simp [figureBytes, bytes32, figureList, ih, word32_bytes]

/-- The bytes of the message a command makes read as the command; those of a message that spells no request read as
none (R175, Table 11-6). -/
def RequestWire.Statement (i : Instr) : Prop :=
  wellFormed i = true → ∀ m, encodeRequest i = some m →
    decodeRequest m = (match i with
      | .unknownRequestCode _ => none
      | _ => some i)

theorem RequestWire.configure (figures : List (Byte × BitVec 32)) : RequestWire.Statement (.configure figures) := by
  rintro - m ⟨⟩
  exact congrArg (Option.map Instr.configure) (figureList_bytes figures)

theorem RequestWire.start : RequestWire.Statement .start := by
  rintro - m ⟨⟩; rfl

theorem RequestWire.restart : RequestWire.Statement .restart := by
  rintro - m ⟨⟩; rfl

theorem RequestWire.mount (slot kind position : Byte) (toolId : BitVec 32) (group : Byte) (fullLife consumedLife : BitVec 32) :
    RequestWire.Statement (.mount slot kind position toolId group fullLife consumedLife) := by
  rintro - m ⟨⟩
  exact congrArg some (by simp only [word32_bytes])

theorem RequestWire.dismount (slot : Byte) : RequestWire.Statement (.dismount slot) := by
  rintro - m ⟨⟩; rfl

theorem RequestWire.assign (variant journal cls slot place beforeVariant beforeJournal : Byte) :
    RequestWire.Statement (.assign variant journal cls slot place beforeVariant beforeJournal) := by
  rintro - m ⟨⟩; rfl

theorem RequestWire.unassign (variant journal : Byte) : RequestWire.Statement (.unassign variant journal) := by
  rintro - m ⟨⟩; rfl

theorem RequestWire.partBegin (variant : Byte) : RequestWire.Statement (.partBegin variant) := by
  rintro - m ⟨⟩; rfl

theorem RequestWire.partEnd : RequestWire.Statement .partEnd := by
  rintro - m ⟨⟩; rfl

theorem RequestWire.journalBegin (variant journal : Byte) : RequestWire.Statement (.journalBegin variant journal) := by
  rintro - m ⟨⟩; rfl

theorem RequestWire.journalEnd (wheelhead : Byte) : RequestWire.Statement (.journalEnd wheelhead) := by
  rintro - m ⟨⟩; rfl

theorem RequestWire.dressBegin (wheelhead : Byte) : RequestWire.Statement (.dressBegin wheelhead) := by
  rintro - m ⟨⟩; rfl

theorem RequestWire.dressEnd (wheelhead : Byte) (depth : BitVec 16) : RequestWire.Statement (.dressEnd wheelhead depth) := by
  rintro - m ⟨⟩
  exact congrArg some (by simp only [word16_bytes])

theorem RequestWire.holdRelease (wheelhead : Byte) : RequestWire.Statement (.holdRelease wheelhead) := by
  rintro - m ⟨⟩; rfl

theorem RequestWire.teach (variant journal wheelhead m : Byte) (step : BitVec 16) :
    RequestWire.Statement (.teach variant journal wheelhead m step) := by
  rintro - m ⟨⟩
  exact congrArg some (by simp only [word16_bytes])

theorem RequestWire.queryTool (slot : Byte) : RequestWire.Statement (.queryTool slot) := by
  rintro - m ⟨⟩; rfl

theorem RequestWire.queryStation : RequestWire.Statement .queryStation := by
  rintro - m ⟨⟩; rfl

theorem RequestWire.unknownRequestCode (message : List Byte) : RequestWire.Statement (.unknownRequestCode message) := by
  rintro ok m ⟨⟩
  simp only [wellFormed, Bool.and_eq_true, Option.isNone_iff_eq_none] at ok
  exact ok.2

theorem RequestWire.transactionStart : RequestWire.Statement .transactionStart := by
  rintro - m ⟨⟩

theorem RequestWire.transactionEnd (bits : List Bool) : RequestWire.Statement (.transactionEnd bits) := by
  rintro - m ⟨⟩

theorem RequestWire.outboundMessageSent : RequestWire.Statement .outboundMessageSent := by
  rintro - m ⟨⟩

theorem RequestWire.fullReset (pair0 pair1 : PhasePair) (selectLow : Bool) : RequestWire.Statement (.fullReset pair0 pair1 selectLow) := by
  rintro - m ⟨⟩

theorem RequestWire.quadratureTransition (n : Wheelhead) (pair : PhasePair) : RequestWire.Statement (.quadratureTransition n pair) := by
  rintro - m ⟨⟩

theorem RequestWire.sensorFrame (edges : List (Bool × Bool)) : RequestWire.Statement (.sensorFrame edges) := by
  rintro - m ⟨⟩

theorem RequestWire.sampleInstant : RequestWire.Statement .sampleInstant := by
  rintro - m ⟨⟩

theorem RequestWire.overlongExpiry (n : Wheelhead) : RequestWire.Statement (.overlongExpiry n) := by
  rintro - m ⟨⟩

theorem RequestWire.dressOverlongExpiry (n : Wheelhead) : RequestWire.Statement (.dressOverlongExpiry n) := by
  rintro - m ⟨⟩

theorem RequestWire.fetchReadEnd (bytes : List Byte) : RequestWire.Statement (.fetchReadEnd bytes) := by
  rintro - m ⟨⟩

theorem RequestWire.writeEnd (readBack : List Byte) : RequestWire.Statement (.writeEnd readBack) := by
  rintro - m ⟨⟩

theorem RequestWire.writeStatusTimeout : RequestWire.Statement .writeStatusTimeout := by
  rintro - m ⟨⟩

theorem RequestWire.frameBegin (wait : Nat) : RequestWire.Statement (.frameBegin wait) := by
  rintro - m ⟨⟩

theorem RequestWire.sendingComplete : RequestWire.Statement .sendingComplete := by
  rintro - m ⟨⟩

theorem RequestWire.collision (line : LineId) : RequestWire.Statement (.collision line) := by
  rintro - m ⟨⟩

theorem RequestWire.statusReceived (a b : LineCopy) : RequestWire.Statement (.statusReceived a b) := by
  rintro - m ⟨⟩

theorem RequestWire.callReceived (a b : LineCopy) : RequestWire.Statement (.callReceived a b) := by
  rintro - m ⟨⟩

theorem RequestWire.offerReceived (a b : LineCopy) : RequestWire.Statement (.offerReceived a b) := by
  rintro - m ⟨⟩

theorem RequestWire.awardReceived (a b : LineCopy) : RequestWire.Statement (.awardReceived a b) := by
  rintro - m ⟨⟩

theorem RequestWire.takenReceived (a b : LineCopy) : RequestWire.Statement (.takenReceived a b) := by
  rintro - m ⟨⟩

theorem RequestWire.declineReceived (a b : LineCopy) : RequestWire.Statement (.declineReceived a b) := by
  rintro - m ⟨⟩

theorem RequestWire.releaseReceived (a b : LineCopy) : RequestWire.Statement (.releaseReceived a b) := by
  rintro - m ⟨⟩

theorem RequestWire.frameDropped (a b : LineCopy) : RequestWire.Statement (.frameDropped a b) := by
  rintro - m ⟨⟩

theorem RequestWire.duplicateStation (a b : LineCopy) : RequestWire.Statement (.duplicateStation a b) := by
  rintro - m ⟨⟩

theorem RequestWire.silenceTimerExpiry : RequestWire.Statement .silenceTimerExpiry := by
  rintro - m ⟨⟩

theorem RequestWire.peerStale (station : Nat) : RequestWire.Statement (.peerStale station) := by
  rintro - m ⟨⟩

theorem RequestWire.peerRemoved (station : Nat) : RequestWire.Statement (.peerRemoved station) := by
  rintro - m ⟨⟩

theorem RequestWire.statusPeriodExpiry : RequestWire.Statement .statusPeriodExpiry := by
  rintro - m ⟨⟩

theorem RequestWire.statusChangeOffer : RequestWire.Statement .statusChangeOffer := by
  rintro - m ⟨⟩

theorem RequestWire.windowExpiry (group : Nat) : RequestWire.Statement (.windowExpiry group) := by
  rintro - m ⟨⟩

theorem RequestWire.awardTimerExpiry (group : Nat) : RequestWire.Statement (.awardTimerExpiry group) := by
  rintro - m ⟨⟩

theorem RequestWire.reservationExpiry (slot : Fin 8) : RequestWire.Statement (.reservationExpiry slot) := by
  rintro - m ⟨⟩

theorem RequestWire.lineEdge (line : LineId) (edge : Edge) : RequestWire.Statement (.lineEdge line edge) := by
  rintro - m ⟨⟩

end Sys2Proof.Laws
end

