-- ==== Sys2Proof/Laws/Port.lean ====
section
/-! SUPPORT. What placing a message can do to the machine port: it changes only the waiting messages, the pending notices and
the flags of the lost ones, keeps the bounds of the outbound queue and the message being sent, and puts a REPLY last. -/

namespace Sys2Proof.Machine

/-- `q` is `p` but for the waiting messages, the pending notices and the flags of the lost ones. -/
def Port.sameSides (p q : Port) : Prop :=
  q = { p with outbound := q.outbound, pendingNotices := q.pendingNotices, recordsLost := q.recordsLost
               noticesLost := q.noticesLost }

theorem Port.sameSides_refl (p : Port) : p.sameSides p := rfl

theorem Port.sameSides_trans {p q r : Port} (h : p.sameSides q) (k : q.sameSides r) : p.sameSides r := by
  unfold Port.sameSides at *
  exact k.trans (congrArg (fun x => ({ x with
    outbound := r.outbound, pendingNotices := r.pendingNotices, recordsLost := r.recordsLost
    noticesLost := r.noticesLost } : Port)) h)

theorem Port.sameSides_dropRecord {p q : Port} (h : p.dropRecord = some q) : p.sameSides q := by
  unfold Port.dropRecord at h
  split at h
  · cases h; rfl
  · cases h

theorem Port.sameSides_dropNotice {p q : Port} (h : p.dropNotice = some q) : p.sameSides q := by
  unfold Port.dropNotice at h
  split at h
  · cases h; rfl
  · cases h

theorem Port.sameSides_roomForRecord (p : Port) (m : OutMsg) : p.sameSides (p.roomForRecord m) := by
  unfold Port.roomForRecord
  split
  · cases h : p.dropRecord with
    | none => rfl
    | some q => exact Port.sameSides_dropRecord h
  · rfl

theorem Port.sameSides_roomForMessage {p q : Port} (h : p.roomForMessage = some q) : p.sameSides q := by
  unfold Port.roomForMessage at h
  split at h
  · cases h; rfl
  · split at h
    · cases h; exact Port.sameSides_dropRecord ‹_›
    · exact Port.sameSides_dropNotice h

theorem Port.sameSides_loseArriving (p : Port) (m : OutMsg) : p.sameSides (p.loseArriving m) := by
  unfold Port.loseArriving
  split
  · rfl
  · split <;> rfl

/-- Placing a message changes no other side of the port. -/
theorem Port.sameSides_place (p : Port) (m : OutMsg) : p.sameSides (p.place m) := by
  unfold Port.place
  split
  · rename_i q h
    exact Port.sameSides_trans (q := q)
      (Port.sameSides_trans (p.sameSides_roomForRecord m) (Port.sameSides_roomForMessage h)) (by rfl)
  · exact Port.sameSides_trans (q := p.roomForRecord m) (p.sameSides_roomForRecord m) (Port.sameSides_loseArriving _ m)

/-- Placing a TOOL NOTICE changes no other side of the port. -/
theorem Port.sameSides_placeToolNotice (p : Port) (n : ToolNotice) : p.sameSides (p.placeToolNotice n) := by
  unfold Port.placeToolNotice
  split
  · rfl
  · exact Port.sameSides_trans (q := p.removeWaiting (OutMsg.isToolNoticeFor n.slot)) (by rfl)
      (Port.sameSides_place _ _)

/-! ## The bounds of the outbound queue (R183) -/

theorem Port.beingSent_append_waiting (p : Port) : p.beingSent ++ p.waiting = p.outbound := by
  unfold Port.beingSent Port.waiting
  split
  · exact List.take_append_drop 1 p.outbound
  · rfl

/-- Removing a waiting message that is there takes exactly one away. -/
theorem Port.removeWaiting_length {p : Port} {cond : OutMsg → Bool} (h : p.waiting.any cond = true) :
    (p.removeWaiting cond).outbound.length + 1 = p.outbound.length := by
  obtain ⟨a, ha, hc⟩ := List.any_eq_true.mp h
  have := List.length_eraseP_of_mem ha hc
  have pos : 0 < p.waiting.length := List.length_pos_of_mem ha
  rw [← p.beingSent_append_waiting]
  simp only [Port.removeWaiting, List.length_append]
  omega

/-- Removing waiting messages never lengthens the queue. -/
theorem Port.removeWaiting_le (p : Port) (cond : OutMsg → Bool) :
    (p.removeWaiting cond).outbound.length ≤ p.outbound.length := by
  rw [← p.beingSent_append_waiting]
  simpa [Port.removeWaiting] using List.length_eraseP_le

theorem Port.dropRecord_length {p q : Port} (h : p.dropRecord = some q) :
    q.outbound.length + 1 = p.outbound.length := by
  unfold Port.dropRecord at h
  split at h
  · cases h; exact Port.removeWaiting_length ‹_›
  · cases h

theorem Port.dropNotice_length {p q : Port} (h : p.dropNotice = some q) :
    q.outbound.length + 1 = p.outbound.length := by
  unfold Port.dropNotice at h
  split at h
  · cases h; exact Port.removeWaiting_length ‹_›
  · cases h

theorem Port.roomForRecord_le (p : Port) (m : OutMsg) : (p.roomForRecord m).outbound.length ≤ p.outbound.length := by
  unfold Port.roomForRecord
  split
  · cases h : p.dropRecord with
    | none => simp
    | some q => have := Port.dropRecord_length h; simp; omega
  · simp

/-- Room made for a message leaves at most 15 of at most 16. -/
theorem Port.roomForMessage_le {p q : Port} (b : p.outbound.length ≤ 16) (h : p.roomForMessage = some q) :
    q.outbound.length ≤ 15 := by
  unfold Port.roomForMessage at h
  split at h
  · cases h; omega
  · split at h
    · cases h; have := Port.dropRecord_length ‹_›; omega
    · have := Port.dropNotice_length h; omega

theorem Port.loseArriving_outbound (p : Port) (m : OutMsg) : (p.loseArriving m).outbound = p.outbound := by
  unfold Port.loseArriving
  split
  · rfl
  · split <;> rfl

/-- The outbound queue never holds more than 16 messages (R183). -/
theorem Port.place_le {p : Port} (m : OutMsg) (b : p.outbound.length ≤ 16) : (p.place m).outbound.length ≤ 16 := by
  have b' := Nat.le_trans (p.roomForRecord_le m) b
  unfold Port.place
  split
  · have := Port.roomForMessage_le b' ‹_›
    simp; omega
  · rw [Port.loseArriving_outbound]; exact b'

theorem Port.placeToolNotice_le {p : Port} (n : ToolNotice) (b : p.outbound.length ≤ 16) :
    (p.placeToolNotice n).outbound.length ≤ 16 := by
  unfold Port.placeToolNotice
  split
  · exact b
  · exact Port.place_le _ (Nat.le_trans (Port.removeWaiting_le _ _) b)

/-- With fewer than 16 messages outbound, a REPLY is placed behind them all. -/
theorem Port.place_reply {p : Port} (code : Byte) (answer : Answer) (b : p.outbound.length < 16) :
    p.place (.reply code answer) = { p with outbound := p.outbound ++ [.reply code answer] } := by
  have room : p.roomForRecord (.reply code answer) = p := by simp [Port.roomForRecord, OutMsg.isRecord]
  simp [Port.place, room, Port.roomForMessage, b]

/-! ## What stays in the outbound queue (R174, R182, R183) -/

/-- Messages that cannot meet the condition all stay, in their order. -/
theorem Port.removeWaiting_filter (p : Port) {cond keep : OutMsg → Bool} (h : ∀ m, cond m = true → keep m = false) :
    (p.removeWaiting cond).outbound.filter keep = p.outbound.filter keep := by
  have erase : ∀ l : List OutMsg, (l.eraseP cond).filter keep = l.filter keep := by
    intro l
    induction l with
    | nil => rfl
    | cons a l ih =>
      cases c : cond a with
      | true => simp [c, h a c]
      | false => simp [c, List.filter_cons, ih]
  rw [← p.beingSent_append_waiting]
  simp [Port.removeWaiting, erase]

/-- The message being sent stays at the head. -/
theorem Port.removeWaiting_beingSent (p : Port) (cond : OutMsg → Bool) :
    (p.removeWaiting cond).beingSent = p.beingSent := by
  cases hs : p.sending with
  | false => simp [Port.removeWaiting, Port.beingSent, hs]
  | true =>
    cases ho : p.outbound with
    | nil => simp [Port.removeWaiting, Port.beingSent, Port.waiting, hs, ho]
    | cons a l => simp [Port.removeWaiting, Port.beingSent, Port.waiting, hs, ho]

theorem Port.removeWaiting_waiting (p : Port) (cond : OutMsg → Bool) :
    (p.removeWaiting cond).waiting = p.waiting.eraseP cond := by
  cases hs : p.sending with
  | false => simp [Port.removeWaiting, Port.beingSent, Port.waiting, hs]
  | true =>
    cases ho : p.outbound with
    | nil => simp [Port.removeWaiting, Port.beingSent, Port.waiting, hs, ho]
    | cons a l => simp [Port.removeWaiting, Port.beingSent, Port.waiting, hs, ho]

/-- What becomes of an outbound queue when messages are dropped or removed: some that wait are gone, each with its flag
set unless it was a TOOL NOTICE replaced; every REPLY and the message being sent stay. -/
structure Port.Thinned (p q : Port) : Prop where
  sides : p.sameSides q
  pendings : q.pendingNotices = p.pendingNotices
  being : q.beingSent = p.beingSent
  waits : q.waiting.Sublist p.waiting
  replies : q.outbound.filter OutMsg.isReply = p.outbound.filter OutMsg.isReply
  records : q.outbound.filter OutMsg.isRecord = p.outbound.filter OutMsg.isRecord ∨ q.recordsLost = true
  notices : q.outbound.filter OutMsg.isNotice = p.outbound.filter OutMsg.isNotice ∨ q.noticesLost = true
  recordsFlag : p.recordsLost = true → q.recordsLost = true
  noticesFlag : p.noticesLost = true → q.noticesLost = true

theorem Port.Thinned.refl (p : Port) : p.Thinned p :=
  ⟨rfl, rfl, rfl, List.Sublist.refl _, rfl, .inl rfl, .inl rfl, id, id⟩

theorem Port.Thinned.trans {p q r : Port} (h : p.Thinned q) (k : q.Thinned r) : p.Thinned r where
  sides := Port.sameSides_trans h.sides k.sides
  pendings := k.pendings.trans h.pendings
  being := k.being.trans h.being
  waits := k.waits.trans h.waits
  replies := k.replies.trans h.replies
  records := k.records.elim (fun e => h.records.imp (fun f => e.trans f) k.recordsFlag) .inr
  notices := k.notices.elim (fun e => h.notices.imp (fun f => e.trans f) k.noticesFlag) .inr
  recordsFlag := k.recordsFlag ∘ h.recordsFlag
  noticesFlag := k.noticesFlag ∘ h.noticesFlag

theorem OutMsg.isNotice_of_isRecord {m : OutMsg} (h : m.isRecord = true) : m.isNotice = false := by simp [OutMsg.isNotice, h]

theorem OutMsg.isReply_of_isRecord {m : OutMsg} (h : m.isRecord = true) : m.isReply = false := by
  cases m <;> simp_all [OutMsg.isRecord, OutMsg.isReply]

theorem OutMsg.isReply_of_isNotice {m : OutMsg} (h : m.isNotice = true) : m.isReply = false := by
  simp only [OutMsg.isNotice, Bool.and_eq_true, Bool.not_eq_true'] at h
  exact h.2

theorem OutMsg.isRecord_of_isNotice {m : OutMsg} (h : m.isNotice = true) : m.isRecord = false := by
  simp only [OutMsg.isNotice, Bool.and_eq_true, Bool.not_eq_true'] at h
  exact h.1

theorem OutMsg.isNotice_of_isToolNoticeFor {m : OutMsg} {slot : Fin 8} (h : m.isToolNoticeFor slot = true) :
    m.isNotice = true := by
  cases m <;> simp_all [OutMsg.isToolNoticeFor, OutMsg.isNotice, OutMsg.isRecord, OutMsg.isReply]

theorem Port.Thinned.dropRecord {p q : Port} (h : p.dropRecord = some q) : p.Thinned q := by
  unfold Port.dropRecord at h
  split at h
  · cases h
    exact
      { sides := rfl, pendings := rfl, being := p.removeWaiting_beingSent _
        waits := (p.removeWaiting_waiting OutMsg.isRecord).symm ▸ List.eraseP_sublist
        replies := p.removeWaiting_filter fun _ => OutMsg.isReply_of_isRecord
        records := .inr rfl, notices := .inl (p.removeWaiting_filter fun _ => OutMsg.isNotice_of_isRecord)
        recordsFlag := fun _ => rfl, noticesFlag := id }
  · cases h

theorem Port.Thinned.dropNotice {p q : Port} (h : p.dropNotice = some q) : p.Thinned q := by
  unfold Port.dropNotice at h
  split at h
  · cases h
    exact
      { sides := rfl, pendings := rfl, being := p.removeWaiting_beingSent _
        waits := (p.removeWaiting_waiting OutMsg.isNotice).symm ▸ List.eraseP_sublist
        replies := p.removeWaiting_filter fun _ => OutMsg.isReply_of_isNotice
        records := .inl (p.removeWaiting_filter fun _ => OutMsg.isRecord_of_isNotice), notices := .inr rfl
        recordsFlag := id, noticesFlag := fun _ => rfl }
  · cases h

theorem Port.Thinned.roomForRecord (p : Port) (m : OutMsg) : p.Thinned (p.roomForRecord m) := by
  unfold Port.roomForRecord
  split
  · cases h : p.dropRecord with
    | none => exact .refl p
    | some q => exact .dropRecord h
  · exact .refl p

theorem Port.Thinned.roomForMessage {p q : Port} (h : p.roomForMessage = some q) : p.Thinned q := by
  unfold Port.roomForMessage at h
  split at h
  · cases h; exact .refl p
  · split at h
    · cases h; exact .dropRecord ‹_›
    · exact .dropNotice h

/-- Placing a message thins the queue and then puts the message at the back, or loses it with its flag set, or, a REPLY
that finds nothing to displace, leaves it out. -/
theorem Port.place_cases (p : Port) (m : OutMsg) :
    (∃ q, p.Thinned q ∧ p.place m = { q with outbound := q.outbound ++ [m] } ∧ (q.outbound.length < p.outbound.length ∨
      q.outbound.length < 16)) ∨
    (p.Thinned (p.place m) ∧ (m.isRecord = true → (p.place m).recordsLost = true) ∧
      (m.isNotice = true → (p.place m).noticesLost = true) ∧ (p.roomForRecord m).roomForMessage = none) := by
  unfold Port.place
  split
  · rename_i q h
    refine .inl ⟨q, (Port.Thinned.roomForRecord p m).trans (.roomForMessage h), rfl, ?_⟩
    have le := p.roomForRecord_le m
    unfold Port.roomForMessage at h
    split at h
    · cases h; omega
    · split at h
      · cases h
        have := Port.dropRecord_length ‹_›
        omega
      · have := Port.dropNotice_length h
        omega
  · rename_i h
    have thin := Port.Thinned.roomForRecord p m
    unfold Port.loseArriving
    split
    · exact .inr ⟨⟨Port.sameSides_trans (q := p.roomForRecord m) thin.sides rfl, thin.pendings, thin.being, thin.waits, thin.replies, .inr rfl, thin.notices,
        fun _ => rfl, thin.noticesFlag⟩, fun _ => rfl, fun n => by simp_all [OutMsg.isNotice], h⟩
    · split
      · exact .inr ⟨⟨Port.sameSides_trans (q := p.roomForRecord m) thin.sides rfl, thin.pendings, thin.being, thin.waits, thin.replies, thin.records, .inr rfl,
          thin.recordsFlag, fun _ => rfl⟩, fun r => by simp_all, fun _ => rfl, h⟩
      · exact .inr ⟨thin, fun r => by simp_all, fun n => by simp_all, h⟩

theorem Port.Thinned.sublist {p q : Port} (h : p.Thinned q) : q.outbound.Sublist p.outbound := by
  rw [← p.beingSent_append_waiting, ← q.beingSent_append_waiting, h.being]
  exact h.waits.append_left _

/-- A REPLY would find room or something to displace (R183). -/
def Port.replyRoom (p : Port) : Prop :=
  p.outbound.length ≤ 16 ∧ (p.outbound.length < 16 ∨ ∃ m ∈ p.waiting, m.isReply = false)

theorem Port.roomForMessage_isSome {p : Port} (h : p.replyRoom) : ∃ q, p.roomForMessage = some q := by
  unfold Port.roomForMessage
  split
  · exact ⟨p, rfl⟩
  · rename_i full
    obtain ⟨-, room | ⟨m, mem, r⟩⟩ := h
    · exact absurd room full
    · split
      · exact ⟨_, rfl⟩
      · rename_i none
        have noRecord : p.waiting.any OutMsg.isRecord = false := by
          cases c : p.waiting.any OutMsg.isRecord with
          | false => rfl
          | true => simp [Port.dropRecord, c] at none
        have : m.isRecord = false := by
          cases c : m.isRecord with
          | false => rfl
          | true => rw [List.any_eq_true.mpr ⟨m, mem, c⟩] at noRecord; cases noRecord
        have any : p.waiting.any OutMsg.isNotice = true :=
          List.any_eq_true.mpr ⟨m, mem, by simp [OutMsg.isNotice, this, r]⟩
        exact ⟨_, if_pos any⟩

/-- A REPLY that has room or something to displace is placed at the back (R183). -/
theorem Port.place_reply_cases {p : Port} (h : p.replyRoom) (code : Byte) (answer : Answer) :
    ∃ q, p.Thinned q ∧ p.place (.reply code answer) = { q with outbound := q.outbound ++ [.reply code answer] } := by
  have room : p.roomForRecord (.reply code answer) = p := by simp [Port.roomForRecord, OutMsg.isRecord]
  obtain ⟨q, some⟩ := Port.roomForMessage_isSome h
  exact ⟨q, .roomForMessage some, by simp [Port.place, room, some]⟩

/-- Room for a REPLY is room for one more message but a REPLY. -/
theorem Port.replyRoom_append {p q : Port} {m : OutMsg} (r : m.isReply = false) (sending : q.sending = p.sending)
    (out : q.outbound = p.outbound ++ [m]) (len : p.outbound.length < 16) : q.replyRoom := by
  refine ⟨by rw [out]; simp; omega, ?_⟩
  by_cases small : q.outbound.length < 16
  · exact .inl small
  · refine .inr ⟨m, ?_, r⟩
    have pos : 1 ≤ p.outbound.length := by rw [out] at small; simp at small; omega
    unfold Port.waiting
    rw [sending, out]
    split
    · rw [List.drop_append_of_le_length pos]; simp
    · simp

/-- What a chain of notices leaves of a port: no REPLY and no record is added or lost without its flag, notices of other
kinds and the telling of a slot stay unless a notice is lost, and room for a REPLY stays. -/
structure Port.Told (p q : Port) : Prop where
  sides : p.sameSides q
  replies : q.outbound.filter OutMsg.isReply = p.outbound.filter OutMsg.isReply
  fewer : q.records ≤ p.records
  records : q.outbound.filter OutMsg.isRecord = p.outbound.filter OutMsg.isRecord ∨ q.recordsLost = true
  others : ∀ m, m.isNotice = true → (∀ slot, m.isToolNoticeFor slot = false) → m ∈ p.outbound →
    m ∈ q.outbound ∨ q.noticesLost = true
  slots : ∀ slot, (p.outbound.any (OutMsg.isToolNoticeFor slot) = true ∨ (p.pendingNotices.get slot).isSome = true) →
    q.outbound.any (OutMsg.isToolNoticeFor slot) = true ∨ (q.pendingNotices.get slot).isSome = true ∨
      q.noticesLost = true
  recordsFlag : p.recordsLost = true → q.recordsLost = true
  noticesFlag : p.noticesLost = true → q.noticesLost = true
  room : p.replyRoom → q.replyRoom

theorem Port.Told.refl (p : Port) : p.Told p :=
  ⟨rfl, rfl, Nat.le_refl _, .inl rfl, fun _ _ _ h => .inl h, fun _ h => h.imp id .inl, id, id, id⟩

theorem Port.Told.trans {p q r : Port} (h : p.Told q) (k : q.Told r) : p.Told r where
  sides := Port.sameSides_trans h.sides k.sides
  replies := k.replies.trans h.replies
  fewer := Nat.le_trans k.fewer h.fewer
  records := k.records.elim (fun e => h.records.imp (fun f => e.trans f) k.recordsFlag) .inr
  others := fun m n o mem => (h.others m n o mem).elim (k.others m n o) fun f => .inr (k.noticesFlag f)
  slots := fun slot t => (h.slots slot t).elim (fun a => k.slots slot (.inl a))
    fun b => b.elim (fun c => k.slots slot (.inr c)) fun d => .inr (.inr (k.noticesFlag d))
  recordsFlag := k.recordsFlag ∘ h.recordsFlag
  noticesFlag := k.noticesFlag ∘ h.noticesFlag
  room := k.room ∘ h.room

theorem Port.Thinned.mem_notice {p q : Port} (h : p.Thinned q) {m : OutMsg} (n : m.isNotice = true)
    (mem : m ∈ p.outbound) : m ∈ q.outbound ∨ q.noticesLost = true :=
  h.notices.imp (fun e => (List.mem_filter.mp (e ▸ List.mem_filter.mpr ⟨mem, n⟩)).1) id

theorem Port.Thinned.mem_record {p q : Port} (h : p.Thinned q) {m : OutMsg} (n : m.isRecord = true)
    (mem : m ∈ p.outbound) : m ∈ q.outbound ∨ q.recordsLost = true :=
  h.records.imp (fun e => (List.mem_filter.mp (e ▸ List.mem_filter.mpr ⟨mem, n⟩)).1) id

/-- Placing a notice tells it or sets the flag of the lost ones, and leaves the rest as a chain of notices does. -/
theorem Port.Told.place (p : Port) {m : OutMsg} (n : m.isNotice = true) :
    p.Told (p.place m) ∧ (m ∈ (p.place m).outbound ∨ (p.place m).noticesLost = true) := by
  have rep := OutMsg.isReply_of_isNotice n
  have recd := OutMsg.isRecord_of_isNotice n
  obtain ⟨q, thin, eq, len⟩ | ⟨thin, -, lost, full⟩ := p.place_cases m
  · rw [eq]
    refine ⟨⟨Port.sameSides_trans (q := q) thin.sides rfl, ?_, ?_, ?_, ?_, ?_, thin.recordsFlag, thin.noticesFlag, ?_⟩,
      .inl (by simp)⟩
    · simp [thin.replies, rep]
    · simpa [Port.records, List.countP_append, recd] using thin.sublist.countP_le
    · simpa [recd] using thin.records
    · intro a an _ mem
      exact (thin.mem_notice an mem).imp (fun x => List.mem_append_left _ x) id
    · rintro slot (any | pend)
      · obtain ⟨a, mem, tool⟩ := List.any_eq_true.mp any
        exact (thin.mem_notice (OutMsg.isNotice_of_isToolNoticeFor tool) mem).elim
          (fun x => .inl (List.any_eq_true.mpr ⟨a, List.mem_append_left _ x, tool⟩)) fun f => .inr (.inr f)
      · exact .inr (.inl (thin.pendings.symm ▸ pend))
    · intro room
      have le := room.1
      exact Port.replyRoom_append (p := q) rep rfl rfl (by omega)
  · have sub := thin.sublist
    refine ⟨⟨thin.sides, thin.replies, sub.countP_le, thin.records, fun a an _ mem => thin.mem_notice an mem, ?_,
      thin.recordsFlag, thin.noticesFlag, ?_⟩, .inr (lost n)⟩
    · intro slot _
      exact .inr (.inr (lost n))
    · intro room
      have same : p.roomForRecord m = p := by simp [Port.roomForRecord, recd]
      obtain ⟨q, some⟩ := Port.roomForMessage_isSome (p := p) room
      rw [same, some] at full
      cases full

/-- Placing a TOOL NOTICE tells of its slot, unless a notice is lost. -/
theorem Port.Told.placeToolNotice (p : Port) (n : ToolNotice) :
    p.Told (p.placeToolNotice n) ∧
      ((p.placeToolNotice n).outbound.any (OutMsg.isToolNoticeFor n.slot) = true ∨
        ((p.placeToolNotice n).pendingNotices.get n.slot).isSome = true ∨ (p.placeToolNotice n).noticesLost = true) := by
  unfold Port.placeToolNotice
  split
  · refine ⟨⟨rfl, rfl, Nat.le_refl _, .inl rfl, fun _ _ _ h => .inl h, ?_, id, id, id⟩, .inr (.inl ?_)⟩
    · rintro slot (any | pend)
      · exact .inl any
      · by_cases same : slot = n.slot
        · subst same; exact .inr (.inl (by simp))
        · exact .inr (.inl (by rw [vector_get_set_other _ _ same]; exact pend))
    · simp
  · have tool : OutMsg.isNotice (.toolNotice n) = true := rfl
    obtain ⟨told, mine⟩ := Port.Told.place (p.removeWaiting (OutMsg.isToolNoticeFor n.slot)) tool
    have tells : ((p.removeWaiting (OutMsg.isToolNoticeFor n.slot)).place (.toolNotice n)).outbound.any
          (OutMsg.isToolNoticeFor n.slot) = true ∨
        ((p.removeWaiting (OutMsg.isToolNoticeFor n.slot)).place (.toolNotice n)).noticesLost = true :=
      mine.imp (fun x => List.any_eq_true.mpr ⟨_, x, by simp [OutMsg.isToolNoticeFor]⟩) id
    have removed : ∀ {a : OutMsg}, a.isToolNoticeFor n.slot = false → a ∈ p.outbound →
        a ∈ (p.removeWaiting (OutMsg.isToolNoticeFor n.slot)).outbound := by
      intro a no mem
      have := p.removeWaiting_filter (cond := OutMsg.isToolNoticeFor n.slot)
        (keep := fun m => !m.isToolNoticeFor n.slot) (by simp)
      exact (List.mem_filter.mp (this ▸ List.mem_filter.mpr ⟨mem, by simp [no]⟩)).1
    refine ⟨⟨Port.sameSides_trans (q := p.removeWaiting (OutMsg.isToolNoticeFor n.slot)) rfl told.sides, ?_, ?_, ?_, ?_, ?_,
      told.recordsFlag, told.noticesFlag, ?_⟩, tells.elim .inl fun f => .inr (.inr f)⟩
    · exact told.replies.trans (p.removeWaiting_filter fun _ h => OutMsg.isReply_of_isNotice (OutMsg.isNotice_of_isToolNoticeFor h))
    · refine Nat.le_trans told.fewer (Nat.le_of_eq ?_)
      simp only [Port.records, List.countP_eq_length_filter]
      rw [p.removeWaiting_filter fun _ h => OutMsg.isRecord_of_isNotice (OutMsg.isNotice_of_isToolNoticeFor h)]
    · exact told.records.imp (fun e => e.trans
        (p.removeWaiting_filter fun _ h => OutMsg.isRecord_of_isNotice (OutMsg.isNotice_of_isToolNoticeFor h))) id
    · intro a an no mem
      exact told.others a an no (removed (no _) mem)
    · rintro slot (any | pend)
      · by_cases same : slot = n.slot
        · subst same; exact tells.elim .inl fun f => .inr (.inr f)
        · obtain ⟨a, mem, is⟩ := List.any_eq_true.mp any
          have no : a.isToolNoticeFor n.slot = false := by
            cases a <;> simp_all [OutMsg.isToolNoticeFor]
          exact told.slots slot (.inl (List.any_eq_true.mpr ⟨a, removed no mem, is⟩))
      · exact told.slots slot (.inr pend)
    · rintro ⟨le, small | ⟨a, mem, r⟩⟩
      · exact told.room ⟨Nat.le_trans (p.removeWaiting_le _) le,
          .inl (Nat.lt_of_le_of_lt (p.removeWaiting_le _) small)⟩
      · refine told.room ⟨Nat.le_trans (p.removeWaiting_le _) le, ?_⟩
        by_cases small : (p.removeWaiting (OutMsg.isToolNoticeFor n.slot)).outbound.length < 16
        · exact .inl small
        · refine .inr ?_
          cases is : a.isToolNoticeFor n.slot with
          | false =>
            refine ⟨a, ?_, r⟩
            rw [Port.removeWaiting_waiting]
            exact (List.mem_eraseP_of_neg (by simp [is])).mpr mem
          | true =>
            have := Port.removeWaiting_length (List.any_eq_true.mpr ⟨a, mem, is⟩)
            omega

end Sys2Proof.Machine
end

