-- ==== Sys2Proof/Laws/Reports.lean ====
section
/-! SUPPORT. What a report can do: every operation of the sister unit, and the end of a step, is a chain of six moves
(writing the sister unit, placing a message, placing a TOOL NOTICE, offering a frame, putting a STATUS in its place). The
lemmas say so once for each operation; what every chain keeps is proved once from the moves. -/

namespace Sys2Proof.Machine

/-- A message is a notice of a kind other than TOOL NOTICE. -/
def OutMsg.otherNotice (m : OutMsg) : Prop :=
  m.isReply = false ∧ m.isRecord = false ∧ ∀ slot, m.isToolNoticeFor slot = false

/-- `t` comes from `s` by a chain of report moves, each writing of the sister unit keeping what `R` says. -/
inductive State.Reports (R : Sister → Sister → Prop) (s : State) : State → Prop
  | done : State.Reports R s s
  | sister (t : State) (x : Sister) : R t.sister x → State.Reports R s t → State.Reports R s (t.setSister x)
  | send (t : State) (m : OutMsg) : m.otherNotice → State.Reports R s t → State.Reports R s (t.send m)
  | toolNotice (t : State) (slot : Fin 8) : State.Reports R s t → State.Reports R s (t.sendToolNotice slot)
  | offer (t : State) (body : FrameBody) : State.Reports R s t → State.Reports R s (t.offerFrame body).1
  | status (t : State) (body : StatusBody) :
    State.Reports R s t → State.Reports R s (t.setLink (t.link.placeStatus body))

/-- The part record, the peer view with its flag, and the moment of the last STATUS stand. -/
def Sister.sameView (x y : Sister) : Prop :=
  y.part = x.part ∧ y.peers = x.peers ∧ y.viewFull = x.viewFull ∧ y.lastSent = x.lastSent

/-- The part record, the peer view, the lent list and the adoption log stand: what every operation on the calling side
of a hand-off keeps (Machine/HandOff.lean). -/
def Sister.settled (x y : Sister) : Prop := Sister.sameView x y ∧ y.lent = x.lent ∧ y.log = x.log

/-- Any writing of the sister unit. -/
def Sister.anyway (_ _ : Sister) : Prop := True

theorem Sister.sameView_rfl (x : Sister) : Sister.sameView x x := ⟨rfl, rfl, rfl, rfl⟩

theorem Sister.settled_rfl (x : Sister) : Sister.settled x x := ⟨x.sameView_rfl, rfl, rfl⟩

theorem Sister.settled_putHandOff (x : Sister) (h : HandOff) : Sister.settled x (x.putHandOff h) := by
  unfold Sister.putHandOff
  split <;> exact x.settled_rfl

theorem Sister.settled_queueTrigger (x : Sister) (t : Trigger) : Sister.settled x (x.queueTrigger t) := by
  unfold Sister.queueTrigger
  split <;> exact x.settled_rfl


section chains
variable {R : Sister → Sister → Prop} {s t u : State}

theorem State.Reports.trans (h : s.Reports R t) (k : t.Reports R u) : s.Reports R u := by
  induction k with
  | done => exact h
  | sister t x _ _ ih => exact ih.sister t x ‹_›
  | send t m o _ ih => exact ih.send t m o
  | toolNotice t slot _ ih => exact ih.toolNotice t slot
  | offer t body _ ih => exact ih.offer t body
  | status t body _ ih => exact ih.status t body

/-- A fold of report chains is a report chain. -/
theorem State.Reports.foldl {α : Type} {f : State → α → State} (hf : ∀ (t : State) (a : α), t.Reports R (f t a)) (l : List α)
    (h : s.Reports R t) : s.Reports R (l.foldl f t) := by
  induction l generalizing t with
  | nil => exact h
  | cons a l ih => exact ih (h.trans (hf t a))

/-- A chain keeps less when its writings keep less. -/
theorem State.Reports.mono {Q : Sister → Sister → Prop} (le : ∀ x y, R x y → Q x y) (h : s.Reports R t) :
    s.Reports Q t := by
  induction h with
  | done => exact .done
  | sister t x r _ ih => exact ih.sister t x (le _ _ r)
  | send t m o _ ih => exact ih.send t m o
  | toolNotice t slot _ ih => exact ih.toolNotice t slot
  | offer t body _ ih => exact ih.offer t body
  | status t body _ ih => exact ih.status t body

theorem State.Reports.view (h : s.Reports Sister.settled t) : s.Reports Sister.sameView t := h.mono fun _ _ k => k.1

theorem State.Reports.any (h : s.Reports R t) : s.Reports Sister.anyway t := h.mono fun _ _ _ => trivial

/-! ## What a chain of reports keeps -/

theorem State.offerFrame_sister (s : State) (body : FrameBody) : (s.offerFrame body).1.sister = s.sister := by
  unfold State.offerFrame
  split <;> rfl

/-- What every writing keeps of the sister unit, the whole chain keeps. -/
theorem State.Reports.keeps (refl : ∀ x, R x x) (trans : ∀ x y z, R x y → R y z → R x z) (h : s.Reports R t) :
    R s.sister t.sister := by
  induction h with
  | done => exact refl _
  | sister t x r _ ih => exact trans _ _ _ ih r
  | send t m _ _ ih => exact ih
  | toolNotice t slot _ ih => exact ih
  | offer t body _ ih => exact (State.offerFrame_sister t body).symm ▸ ih
  | status t body _ ih => exact ih

/-- A chain that keeps the view leaves the part record, the peer view and the last STATUS as they were. -/
theorem State.Reports.keepsView (h : s.Reports Sister.sameView t) : Sister.sameView s.sister t.sister :=
  h.keeps Sister.sameView_rfl fun _ _ _ a b =>
    ⟨b.1.trans a.1, b.2.1.trans a.2.1, b.2.2.1.trans a.2.2.1, b.2.2.2.trans a.2.2.2⟩

/-- A chain of the calling side leaves the lent list and the adoption log as they were too. -/
theorem State.Reports.keepsSettled (h : s.Reports Sister.settled t) : Sister.settled s.sister t.sister :=
  h.keeps Sister.settled_rfl fun _ _ _ a b =>
    ⟨⟨b.1.1.trans a.1.1, b.1.2.1.trans a.1.2.1, b.1.2.2.1.trans a.1.2.2.1, b.1.2.2.2.trans a.1.2.2.2⟩,
      b.2.1.trans a.2.1, b.2.2.trans a.2.2⟩

theorem State.reportsOnly_refl (s : State) : s.reportsOnly s := rfl

theorem State.reportsOnly_trans (h : s.reportsOnly t) (k : t.reportsOnly u) : s.reportsOnly u :=
  Eq.trans (b := t.withReportsOf u) k
    (Eq.trans (b := (s.withReportsOf t).withReportsOf u) (congrArg (fun x => State.withReportsOf x u) h) rfl)

theorem State.reportsOnly_setPort {p : Port} (h : s.port.sameSides p) : s.reportsOnly (s.setPort p) :=
  congrArg s.setPort h

theorem State.reportsOnly_offer (s : State) (body : FrameBody) : s.reportsOnly (s.offerFrame body).1 := by
  unfold State.offerFrame
  split
  · rfl
  · exact State.reportsOnly_setPort (Port.sameSides_place _ _)

/-- A chain of reports changes nothing but the sister unit, the transmit queue and the waiting messages. -/
theorem State.Reports.only (h : s.Reports R t) : s.reportsOnly t := by
  induction h with
  | done => rfl
  | sister t x _ _ ih => exact State.reportsOnly_trans ih rfl
  | send t m _ _ ih => exact State.reportsOnly_trans ih (State.reportsOnly_setPort (Port.sameSides_place _ _))
  | toolNotice t slot _ ih =>
    exact State.reportsOnly_trans ih (State.reportsOnly_setPort (Port.sameSides_placeToolNotice _ _))
  | offer t body _ ih => exact State.reportsOnly_trans ih (State.reportsOnly_offer t body)
  | status t body _ ih => exact State.reportsOnly_trans ih rfl

/-- A chain of reports keeps the outbound queue within its 16 places. -/
theorem State.Reports.outbound_le (h : s.Reports R t) (b : s.port.outbound.length ≤ 16) :
    t.port.outbound.length ≤ 16 := by
  induction h with
  | done => exact b
  | sister t x _ _ ih => exact ih
  | send t m _ _ ih => exact Port.place_le m ih
  | toolNotice t slot _ ih => exact Port.placeToolNotice_le _ ih
  | offer t body _ ih =>
    unfold State.offerFrame
    split
    · exact ih
    · exact Port.place_le _ ih
  | status t body _ ih => exact ih

/-- A chain of reports leaves the port as a chain of notices does. -/
theorem State.Reports.told (h : s.Reports R t) : s.port.Told t.port := by
  induction h with
  | done => exact .refl _
  | sister t x _ _ ih => exact ih
  | send t m o _ ih => exact ih.trans (Port.Told.place _ (by simp [OutMsg.isNotice, o.1, o.2.1])).1
  | toolNotice t slot _ ih => exact ih.trans (Port.Told.placeToolNotice _ _).1
  | offer t body _ ih =>
    unfold State.offerFrame
    split
    · exact ih
    · exact ih.trans (Port.Told.place _ rfl).1
  | status t body _ ih => exact ih

theorem Link.placeStatus_framesHeld (l : Link) (body : StatusBody) :
    (l.placeStatus body).framesHeld = l.framesHeld := by
  unfold Link.placeStatus Link.framesHeld
  simp only [List.countP_append, List.countP_filter]
  have e : (fun a : QueuedFrame => !a.body.isStatus && !(a.body.isStatus && !a.sending)) =
      fun a => !a.body.isStatus := by funext a; cases a.body.isStatus <;> simp
  rw [e]
  rfl

/-- A chain of reports keeps the transmit queue within its 8 frame places (R128, R129). -/
theorem State.Reports.frames_le (h : s.Reports R t) (b : s.link.framesHeld ≤ 8) : t.link.framesHeld ≤ 8 := by
  induction h with
  | done => exact b
  | sister t x _ _ ih => exact ih
  | send t m _ _ ih => exact ih
  | toolNotice t slot _ ih => exact ih
  | offer t body _ ih =>
    unfold State.offerFrame
    split
    · rename_i room
      have one : List.countP (fun f : QueuedFrame => !f.body.isStatus)
          [{ body := body, attempts := 0, sending := false }] ≤ 1 := List.countP_le_length
      show List.countP _ (t.link.queue ++ _) ≤ 8
      rw [List.countP_append]
      unfold Link.framesHeld at room
      omega
    · exact ih
  | status t body _ ih =>
    exact Nat.le_trans (Nat.le_of_eq (Link.placeStatus_framesHeld _ _)) ih

end chains

section fields
variable {s t : State} (h : s.reportsOnly t)
include h

theorem State.reportsOnly.station : t.station = s.station := by rw [show t = s.withReportsOf t from h]; rfl
theorem State.reportsOnly.config : t.config = s.config := by rw [show t = s.withReportsOf t from h]; rfl
theorem State.reportsOnly.tools : t.tools = s.tools := by rw [show t = s.withReportsOf t from h]; rfl
theorem State.reportsOnly.counters : t.counters = s.counters := by rw [show t = s.withReportsOf t from h]; rfl
theorem State.reportsOnly.sampler : t.sampler = s.sampler := by rw [show t = s.withReportsOf t from h]; rfl
theorem State.reportsOnly.channels : t.channels = s.channels := by rw [show t = s.withReportsOf t from h]; rfl
theorem State.reportsOnly.store : t.store = s.store := by rw [show t = s.withReportsOf t from h]; rfl
theorem State.reportsOnly.clock : t.clock = s.clock := by rw [show t = s.withReportsOf t from h]; rfl
theorem State.reportsOnly.freeDraws : t.freeDraws = s.freeDraws := by rw [show t = s.withReportsOf t from h]; rfl
theorem State.reportsOnly.pending : t.pending = s.pending := by rw [show t = s.withReportsOf t from h]; rfl
theorem State.reportsOnly.lines : t.link.lines = s.link.lines := by rw [show t = s.withReportsOf t from h]; rfl
theorem State.reportsOnly.quietTime : t.link.quietTime = s.link.quietTime := by rw [show t = s.withReportsOf t from h]; rfl
theorem State.reportsOnly.inbound : t.port.inbound = s.port.inbound := by rw [show t = s.withReportsOf t from h]; rfl
theorem State.reportsOnly.sending : t.port.sending = s.port.sending := by rw [show t = s.withReportsOf t from h]; rfl
theorem State.reportsOnly.select : t.port.select = s.port.select := by rw [show t = s.withReportsOf t from h]; rfl
theorem State.reportsOnly.figures : t.figures = s.figures := by rw [show t = s.withReportsOf t from h]; rfl

end fields

/-! ## The operations of the sister unit are chains of reports -/

section operations
variable {s t : State}

theorem State.Reports.markStatus (h : s.Reports Sister.settled t) : s.Reports Sister.settled t.markStatus := h.sister t _ ⟨⟨rfl, rfl, rfl, rfl⟩, rfl, rfl⟩

theorem State.Reports.queueFrame (body : FrameBody) (h : s.Reports Sister.settled t) : s.Reports Sister.settled (t.queueFrame body) := h.offer t body

theorem State.Reports.sendSwap (n : SwapNotice) (h : s.Reports Sister.settled t) : s.Reports Sister.settled (t.sendSwap n) := h.send t _ ⟨rfl, rfl, fun _ => rfl⟩

theorem State.Reports.sendLinkNotice (n : LinkNotice) (h : s.Reports Sister.settled t) : s.Reports Sister.settled (t.sendLinkNotice n) := h.send t _ ⟨rfl, rfl, fun _ => rfl⟩

theorem State.Reports.releaseToLenders (leaving : List OpEntry) (h : s.Reports Sister.settled t) :
    s.Reports Sister.settled (t.releaseToLenders leaving) :=
  State.Reports.foldl (fun t _ => State.Reports.queueFrame _ (State.Reports.done (s := t))) _ h

theorem State.Reports.departMarked (sel : OpEntry → Bool) (h : s.Reports Sister.settled t) : s.Reports Sister.settled (t.departMarked sel) :=
  State.Reports.foldl (fun t _ => State.Reports.sendSwap _ (State.Reports.done (s := t))) _
    (State.Reports.releaseToLenders _ (h.sister t _ ⟨⟨rfl, rfl, rfl, rfl⟩, rfl, rfl⟩))

theorem State.Reports.markLeaving (cause : LeaveCause) (sel : OpEntry → Bool) (h : s.Reports Sister.settled t) :
    s.Reports Sister.settled (t.markLeaving cause sel) := by
  unfold State.markLeaving
  dsimp only
  split
  · exact h.sister t _ ⟨⟨rfl, rfl, rfl, rfl⟩, rfl, rfl⟩
  · exact (h.sister t _ ⟨⟨rfl, rfl, rfl, rfl⟩, rfl, rfl⟩).departMarked _

theorem State.Reports.departEnded (ops : List Op) (h : s.Reports Sister.settled t) : s.Reports Sister.settled (t.departEnded ops) := by
  unfold State.departEnded
  split
  · exact h
  · exact h.departMarked _

theorem State.Reports.withNewTag (hd : HandOff) (k : TriggerKind) (r : Nat) (h : s.Reports Sister.settled t) :
    s.Reports Sister.settled (t.withNewTag hd k r).2 := h.sister t _ ⟨⟨rfl, rfl, rfl, rfl⟩, rfl, rfl⟩

theorem State.Reports.failHandOff (hd : HandOff) (h : s.Reports Sister.settled t) : s.Reports Sister.settled (t.failHandOff hd) :=
  ((h.sister t _ ⟨⟨rfl, rfl, rfl, rfl⟩, rfl, rfl⟩).sendSwap _).departEnded _

theorem State.Reports.placeCall (fuel : Nat) (hd : HandOff) (h : s.Reports Sister.settled t) :
    s.Reports Sister.settled (State.placeCall fuel hd t).1 := by
  induction fuel generalizing hd t with
  | zero =>
    unfold State.placeCall
    dsimp only
    split
    · exact (h.sister t _ (Sister.settled_putHandOff _ _)).offer _ _
    · exact ((h.sister t _ (Sister.settled_putHandOff _ _)).offer _ _).failHandOff _
  | succ fuel ih =>
    unfold State.placeCall
    dsimp only
    split
    · exact (h.sister t _ (Sister.settled_putHandOff _ _)).offer _ _
    · split
      · exact ih _ (((h.sister t _ (Sister.settled_putHandOff _ _)).offer _ _).withNewTag _ _ _)
      · exact ((h.sister t _ (Sister.settled_putHandOff _ _)).offer _ _).failHandOff _

theorem State.Reports.openBatch (tr : Trigger) (lender : Option Nat) (ops : List BatchOp) (h : s.Reports Sister.settled t) :
    s.Reports Sister.settled (t.openBatch tr lender ops).1 := by
  unfold State.openBatch
  dsimp only
  split
  · exact (h.sister t _ ⟨⟨rfl, rfl, rfl, rfl⟩, rfl, rfl⟩).failHandOff _
  · exact State.Reports.placeCall _ _ ((h.sister t _ ⟨⟨rfl, rfl, rfl, rfl⟩, rfl, rfl⟩).sister _ _ ⟨⟨rfl, rfl, rfl, rfl⟩, rfl, rfl⟩)

theorem State.Reports.openHandOff (tr : Trigger) (h : s.Reports Sister.settled t) : s.Reports Sister.settled (t.openHandOff tr).1 := by
  unfold State.openHandOff
  split
  · exact h
  · exact h.openBatch _ _ _

theorem State.Reports.localSwap (tr : Trigger) (slot : Fin 8) (h : s.Reports Sister.settled t) : s.Reports Sister.settled (t.localSwap tr slot) :=
  (h.sister t _ ⟨⟨rfl, rfl, rfl, rfl⟩, rfl, rfl⟩).sendSwap _

theorem State.Reports.settleGroup (fuel g : Nat) (tr : Option Trigger) (h : s.Reports Sister.settled t) :
    s.Reports Sister.settled (State.settleGroup fuel g tr t) := by
  induction fuel generalizing tr t with
  | zero => exact h
  | succ fuel ih =>
    cases tr with
    | some tr =>
      unfold State.settleGroup
      split
      · exact ih none h
      · split
        · exact ih none (h.localSwap _ _)
        · have k := h.openHandOff tr
          split <;> rename_i e <;> rw [e] at k
          · exact k
          · exact ih _ k
          · exact ih _ k
    | none =>
      unfold State.settleGroup
      split
      · exact h
      · split
        · exact h
        · exact ih _ (h.sister t _ ⟨⟨rfl, rfl, rfl, rfl⟩, rfl, rfl⟩)

theorem State.Reports.afterEnding (hd : HandOff) (follow : Bool) (h : s.Reports Sister.settled t) :
    s.Reports Sister.settled (t.afterEnding hd follow) := h.settleGroup _ _ _

theorem State.Reports.escalate (hd : HandOff) (h : s.Reports Sister.settled t) : s.Reports Sister.settled (t.escalate hd) := by
  have k : s.Reports Sister.settled (if hd.awarded.isSome then t.queueFrame (.award hd.tag hd.group none) else t) := by
    split
    · exact h.queueFrame _
    · exact h
  unfold State.escalate
  dsimp only
  generalize (if hd.awarded.isSome then t.queueFrame (.award hd.tag hd.group none) else t) = u at k ⊢
  split
  · exact State.Reports.placeCall _ _ (k.withNewTag _ _ _)
  · exact (State.Reports.placeCall _ _ (k.withNewTag _ _ _)).afterEnding _ _

theorem State.Reports.orphanSlot (slot : Fin 8) (h : s.Reports Sister.settled t) : s.Reports Sister.settled (t.orphanSlot slot) := by
  unfold State.orphanSlot
  dsimp only
  split
  · exact h
  · exact (h.sister t _ ⟨⟨rfl, rfl, rfl, rfl⟩, rfl, rfl⟩).sendSwap _

theorem State.Reports.placeTrigger (tr : Trigger) (h : s.Reports Sister.settled t) : s.Reports Sister.settled (t.placeTrigger tr) := by
  unfold State.placeTrigger
  dsimp only
  have k : s.Reports Sister.settled (if tr.kind = .break then
      t.setSister { t.sister with standing := t.sister.standing.filter fun r => !(r.slot == tr.slot && r.trigger == .wear) }
    else t) := by
    split
    · exact h.sister t _ ⟨⟨rfl, rfl, rfl, rfl⟩, rfl, rfl⟩
    · exact h
  generalize (if tr.kind = .break then
      t.setSister { t.sister with standing := t.sister.standing.filter fun r => !(r.slot == tr.slot && r.trigger == .wear) }
    else t) = u at k ⊢
  split
  · exact k
  · split
    · exact k.sister _ _ (Sister.settled_queueTrigger _ _)
    · exact k.settleGroup _ _ _

theorem State.Reports.takeTrigger (slot : Fin 8) (g : Option Nat) (seat : Seat) (kind : TriggerKind) (h : s.Reports Sister.settled t) :
    s.Reports Sister.settled (t.takeTrigger slot g seat kind) := by
  unfold State.takeTrigger
  split
  · exact h.orphanSlot _
  · split
    · exact h.escalate _
    · exact h.placeTrigger _

theorem State.Reports.releaseReservation (slot : Fin 8) (h : s.Reports Sister.settled t) : s.Reports Sister.settled (t.releaseReservation slot) := by
  unfold State.releaseReservation
  split
  · exact h
  · exact (h.sister t _ ⟨⟨rfl, rfl, rfl, rfl⟩, rfl, rfl⟩).markStatus

theorem State.Reports.reportState (slot : Fin 8) (before : ToolState) (h : s.Reports Sister.settled t) :
    s.Reports Sister.settled (t.reportState slot before) := by
  unfold State.reportState
  split
  · exact h
  · rename_i tool _
    split
    · exact h
    · have k : s.Reports Sister.settled (if tool.state = .broken then t.releaseReservation slot else t) := by
        split
        · exact h.releaseReservation _
        · exact h
      dsimp only
      apply State.Reports.markStatus
      split
      · exact k.takeTrigger _ _ _ _
      · exact k

theorem State.Reports.endRound (hd : HandOff) (h : s.Reports Sister.settled t) : s.Reports Sister.settled (t.endRound hd) := by
  unfold State.endRound
  split
  · dsimp only
    split
    · exact State.Reports.placeCall _ _ (h.withNewTag _ _ _)
    · exact (State.Reports.placeCall _ _ (h.withNewTag _ _ _)).afterEnding _ _
  · exact (h.failHandOff _).afterEnding _ _

theorem State.Reports.expireWindow (hd : HandOff) (h : s.Reports Sister.settled t) : s.Reports Sister.settled (t.expireWindow hd) := by
  unfold State.expireWindow
  split
  · exact h.endRound _
  · dsimp only
    split
    · exact ((h.sister t _ (Sister.settled_putHandOff _ _)).offer _ _).endRound _
    · exact (h.sister t _ (Sister.settled_putHandOff _ _)).offer _ _

theorem State.Reports.reportSent (body : FrameBody) (h : s.Reports Sister.sameView t) :
    s.Reports Sister.sameView (t.reportSent body) := by
  unfold State.reportSent
  split
  · split
    · exact h.sister t _ (Sister.settled_putHandOff _ _).1
    · exact h
  · split
    · exact h.sister t _ (Sister.settled_putHandOff _ _).1
    · exact h
  · exact h.sister t _ ⟨rfl, rfl, rfl, rfl⟩
  all_goals exact h

theorem State.Reports.reportDiscarded (body : FrameBody) (h : s.Reports Sister.settled t) : s.Reports Sister.settled (t.reportDiscarded body) := by
  unfold State.reportDiscarded
  split
  · split
    · exact h.endRound _
    · exact h
  · split
    · exact h.endRound _
    · exact h
  all_goals exact h

theorem State.Reports.cancelHandOff (hd : HandOff) (h : s.Reports Sister.settled t) : s.Reports Sister.settled (t.cancelHandOff hd) :=
  ((((h.queueFrame _).sister _ _ ⟨⟨rfl, rfl, rfl, rfl⟩, rfl, rfl⟩).sendSwap _).departEnded _).afterEnding _ _

theorem State.Reports.settleStanding (slot : Fin 8) (r : Standing) (h : s.Reports Sister.settled t) :
    s.Reports Sister.settled (t.settleStanding slot r) := (h.sister t _ ⟨⟨rfl, rfl, rfl, rfl⟩, rfl, rfl⟩).sendSwap _

theorem State.Reports.cancelOpen (slot : Fin 8) (g : Option Nat) (h : s.Reports Sister.settled t) : s.Reports Sister.settled (t.cancelOpen slot g) := by
  unfold State.cancelOpen
  split
  · exact h.cancelHandOff _
  · exact h

theorem State.Reports.settleAll (slot : Fin 8) (g : Option Nat) (h : s.Reports Sister.settled t) : s.Reports Sister.settled (t.settleAll slot g) :=
  State.Reports.foldl (fun t r => State.Reports.settleStanding _ r (State.Reports.done (s := t))) _ h

theorem State.Reports.reportMount (slot : Fin 8) (tool : Tool) (h : s.Reports Sister.settled t) : s.Reports Sister.settled (t.reportMount slot tool) := by
  have k := (h.sister t { t.sister with triggers := t.sister.triggers.filter fun q => q.slot != slot }
    ⟨⟨rfl, rfl, rfl, rfl⟩, rfl, rfl⟩).cancelOpen slot tool.group
  unfold State.reportMount
  dsimp only
  split <;> split
  · exact (k.settleAll _ _).takeTrigger _ _ _ _
  · exact k.takeTrigger _ _ _ _
  · exact k.settleAll _ _
  · exact k

theorem State.Reports.reportUnblocked (slot : Fin 8) (h : s.Reports Sister.settled t) : s.Reports Sister.settled (t.reportUnblocked slot) :=
  (State.Reports.foldl (fun t hd => State.Reports.cancelHandOff hd (State.Reports.done (s := t))) _ h).sister _ _ ⟨⟨rfl, rfl, rfl, rfl⟩, rfl, rfl⟩

theorem State.Reports.offerStatus (h : s.Reports Sister.settled t) : s.Reports Sister.settled t.offerStatus := (h.status t _).sister _ _ ⟨⟨rfl, rfl, rfl, rfl⟩, rfl, rfl⟩

/-- The end of a step is a chain of reports. -/
theorem State.Reports.finish (before : State) (h : s.Reports Sister.settled t) : s.Reports Sister.settled (before.finish t) := by
  have k : s.Reports Sister.settled (before.markFigures t) := by
    unfold State.markFigures
    split
    · exact h.markStatus
    · exact h
  unfold State.finish
  dsimp only
  split
  · exact k.offerStatus
  · exact k

/-! ## Frames delivered (Machine/Peers.lean) -/

theorem State.Reports.hearPeer (station : Nat) (h : s.Reports Sister.anyway t) : s.Reports Sister.anyway (t.hearPeer station) := by
  unfold State.hearPeer
  split
  · exact h.sister t _ trivial
  · split
    · exact h.sister t _ trivial
    · split
      · exact h
      · exact (h.sister t _ trivial).send _ _ ⟨rfl, rfl, fun _ => rfl⟩

/-- A chain of the calling side after a chain that keeps the view. -/
theorem State.Reports.andThen {u : State} (h : s.Reports Sister.sameView t) (k : t.Reports Sister.settled u) :
    s.Reports Sister.sameView u := h.trans k.view

theorem State.Reports.markedSwap (n : SwapNotice) (h : s.Reports Sister.sameView t) :
    s.Reports Sister.sameView (t.markStatus.sendSwap n) := h.andThen (State.Reports.done.markStatus.sendSwap n)

theorem State.Reports.takeHome (orphan : Bool) (es : List LentEntry) (h : s.Reports Sister.sameView t) :
    s.Reports Sister.sameView (State.takeHome orphan es t).1 := by
  induction es generalizing t with
  | nil => exact h
  | cons e es ih =>
    unfold State.takeHome
    split
    · exact ih h
    · exact ih (h.sister t _ ⟨rfl, rfl, rfl, rfl⟩)

theorem State.Reports.bringHome (holder : Nat) (sel : LentEntry → Bool) (h : s.Reports Sister.sameView t) :
    s.Reports Sister.sameView (t.bringHome holder sel) := by
  unfold State.bringHome
  dsimp only
  split
  · exact h.takeHome _ _
  · exact (h.takeHome _ _).markedSwap _

theorem State.Reports.markReclaimed (lender : Nat) (groups : List Nat) (h : s.Reports Sister.sameView t) :
    s.Reports Sister.sameView (t.markReclaimed lender groups) :=
  h.andThen (State.Reports.markLeaving _ _ .done)

theorem State.Reports.honourTaken (hd : HandOff) (taker : Nat) (tag : BitVec 8) (h : s.Reports Sister.sameView t) :
    s.Reports Sister.sameView (t.honourTaken hd taker tag) := by
  unfold State.honourTaken
  dsimp only
  split
  · exact (h.sister t _ ⟨rfl, rfl, rfl, rfl⟩).andThen (((State.Reports.done.sendSwap _).queueFrame _).afterEnding _ _)
  · exact (h.sister t _ ⟨rfl, rfl, rfl, rfl⟩).andThen ((State.Reports.done.sendSwap _).afterEnding _ _)

theorem State.Reports.takenByStatus (station : Nat) (b : StatusBody) (h : s.Reports Sister.sameView t) :
    s.Reports Sister.sameView (t.takenByStatus station b) := by
  unfold State.takenByStatus
  refine State.Reports.foldl (fun u hd => ?_) _ h
  have d : u.Reports Sister.sameView u := .done
  split
  · split
    · exact d.honourTaken _ _ _
    · exact d
  · exact d

theorem State.Reports.repeatTaken (station : Nat) (pairs : List Op) (h : s.Reports Sister.sameView t) :
    s.Reports Sister.sameView (t.repeatTaken station pairs) :=
  State.Reports.foldl (fun t _ => (State.Reports.queueFrame _ (State.Reports.done (s := t))).view) _ h

theorem State.Reports.lendUnconfirmed (holder : Nat) (ops : List Op) (h : s.Reports Sister.sameView t) :
    s.Reports Sister.sameView (State.lendUnconfirmed holder ops t).1 := by
  induction ops generalizing t with
  | nil => exact h
  | cons op ops ih =>
    unfold State.lendUnconfirmed
    split
    · exact ih h
    · split
      · exact ih h
      · split
        · exact ih h
        · exact ih (h.sister t _ ⟨rfl, rfl, rfl, rfl⟩)

theorem State.Reports.confirmHeld (station : Nat) (pairs : List Op) (h : s.Reports Sister.sameView t) :
    s.Reports Sister.sameView (t.confirmHeld station pairs) := by
  unfold State.confirmHeld
  dsimp only
  split
  · exact (h.repeatTaken _ _).lendUnconfirmed _ _
  · exact ((h.repeatTaken _ _).lendUnconfirmed _ _).markedSwap _

theorem State.Reports.lenderSide (station : Nat) (b : StatusBody) (h : s.Reports Sister.sameView t) :
    s.Reports Sister.sameView (t.lenderSide station b) :=
  ((h.takenByStatus _ _).bringHome _ _).confirmHeld _ _

theorem State.Reports.afterOpening (tr : Trigger) (p : State × Opening) (h : s.Reports Sister.settled p.1) :
    s.Reports Sister.settled (State.afterOpening tr p) := by
  obtain ⟨u, o⟩ := p
  cases o with
  | opened => exact h
  | noLentRoom => exact h.settleGroup _ _ _
  | failed => exact h.settleGroup _ _ _

theorem State.Reports.restartStanding (station : Nat) (b : StatusBody) (r : Standing) (h : s.Reports Sister.settled t) :
    s.Reports Sister.settled (t.restartStanding station b r) := by
  unfold State.restartStanding
  split
  · dsimp only
    split
    · exact h.sister t _ ⟨⟨rfl, rfl, rfl, rfl⟩, rfl, rfl⟩
    · exact State.Reports.afterOpening _ _ ((h.sister t _ ⟨⟨rfl, rfl, rfl, rfl⟩, rfl, rfl⟩).openBatch _ _ _)
  · exact h

theorem State.Reports.takeStatus (station : Nat) (stale known : Bool) (b : StatusBody) (h : s.Reports Sister.anyway t) :
    s.Reports Sister.anyway (t.takeStatus station stale known b) := by
  unfold State.takeStatus
  dsimp only
  have k := (h.sister t (t.sister.mapPeer station fun p => { p with status := b }) trivial).trans
    ((State.Reports.done.markReclaimed station b.reclaim).lenderSide station b).any
  split
  · exact k
  · exact k.trans (State.Reports.foldl
      (fun t r => State.Reports.restartStanding _ _ r (State.Reports.done (s := t))) _ .done).any

theorem State.Reports.takeCall (caller : Nat) (c : CallBody) (h : s.Reports Sister.sameView t) :
    s.Reports Sister.sameView (t.takeCall caller c) := by
  unfold State.takeCall
  split
  · split
    · exact h
    · exact (h.sister t _ ⟨rfl, rfl, rfl, rfl⟩).andThen (State.Reports.done.markStatus.queueFrame _)
  · exact h

theorem State.Reports.adopt (slot : Fin 8) (r : Reservation) (h : s.Reports Sister.sameView t) :
    s.Reports Sister.sameView (t.adopt slot r) :=
  (h.sister t _ ⟨rfl, rfl, rfl, rfl⟩).andThen (((State.Reports.done.queueFrame _).sendSwap _).markStatus)

theorem State.Reports.takeAward (caller : Nat) (tag : BitVec 8) (winner : Option Nat)
    (h : s.Reports Sister.sameView t) : s.Reports Sister.sameView (t.takeAward caller tag winner) := by
  unfold State.takeAward
  split
  · split
    · exact h.andThen (State.Reports.done.queueFrame _)
    · split
      · exact h.adopt _ _
      · exact h.andThen ((State.Reports.done.releaseReservation _).queueFrame _)
  · split
    · exact h
    · exact h.andThen (State.Reports.done.releaseReservation _)

theorem State.Reports.takeOffer (station : Nat) (stale : Bool) (o : OfferBody) (h : s.Reports Sister.settled t) :
    s.Reports Sister.settled (t.takeOffer station stale o) := by
  unfold State.takeOffer
  split
  · split
    · split
      · exact h.sister t _ (Sister.settled_putHandOff _ _)
      · exact h
    · exact h
  · exact h

theorem State.Reports.takeTaken (station caller : Nat) (tag : BitVec 8) (h : s.Reports Sister.sameView t) :
    s.Reports Sister.sameView (t.takeTaken station caller tag) := by
  unfold State.takeTaken
  split
  · split
    · exact h.honourTaken _ _ _
    · exact h.andThen (State.Reports.done.queueFrame _)
  · exact h

theorem Sister.restoreLent_view (holder : Nat) (es : List LentEntry) (x y : Sister) (h : Sister.sameView x y) :
    Sister.sameView x (Sister.restoreLent holder es y) := by
  induction es generalizing y with
  | nil => exact h
  | cons e es ih =>
    unfold Sister.restoreLent
    split
    · exact ih y h
    · exact ih _ h

theorem State.Reports.takeWithdrawn (station : Nat) (tag : BitVec 8) (h : s.Reports Sister.sameView t) :
    s.Reports Sister.sameView (t.takeWithdrawn station tag) := by
  unfold State.takeWithdrawn
  split
  · exact h
  · rename_i a _
    dsimp only
    split
    · exact h.andThen (State.Reports.done.markLeaving _ _)
    · have k : s.Reports Sister.sameView (t.markLeaving .withdrawn fun e => e.lender == some station &&
          e.among ((List.filter (fun o => o.home.isNone) a.ops).map AdoptedOp.op)) :=
        h.andThen (State.Reports.done.markLeaving _ _)
      refine (State.Reports.sister _ _ ?_ k).send _ _ ⟨rfl, rfl, fun _ => rfl⟩
      apply Sister.restoreLent_view
      exact ⟨rfl, rfl, rfl, rfl⟩

theorem State.Reports.takeDecline (station addressed : Nat) (tag : BitVec 8) (reason : DeclineReason)
    (h : s.Reports Sister.sameView t) : s.Reports Sister.sameView (t.takeDecline station addressed tag reason) := by
  have r : s.Reports Sister.sameView (t.takeRefusal station tag) := by
    unfold State.takeRefusal
    split
    · exact h.andThen (State.Reports.done.endRound _)
    · exact h
  unfold State.takeDecline
  split
  · split
    · exact r
    · exact r
    · exact h.takeWithdrawn _ _
    · exact h
  · exact h

theorem State.Reports.takeRelease (station lender : Nat) (ops : List Op) (h : s.Reports Sister.sameView t) :
    s.Reports Sister.sameView (t.takeRelease station lender ops) := by
  unfold State.takeRelease
  split
  · exact h.bringHome _ _
  · exact h

/-- A frame delivered to the sister unit is a chain of reports. -/
theorem State.Reports.deliver (station : Nat) (body : FrameBody) (h : s.Reports Sister.anyway t) :
    s.Reports Sister.anyway (t.deliver station body) := by
  have k := h.hearPeer station
  unfold State.deliver
  dsimp only
  split
  · exact k.takeStatus _ _ _ _
  · exact k.trans (State.Reports.done.takeCall _ _).any
  · exact k.trans (State.Reports.done.takeOffer _ _ _).any
  · exact k.trans (State.Reports.done.takeAward _ _ _).any
  · exact k.trans (State.Reports.done.takeTaken _ _ _).any
  · exact k.trans (State.Reports.done.takeDecline _ _ _ _).any
  · exact k.trans (State.Reports.done.takeRelease _ _ _).any

end operations

end Sys2Proof.Machine
end

