-- ==== Sys2Proof/Laws/Request.lean ====
section
/-! SUPPORT. What a request does at the machine port: one taken now is handled with its message gone from the inbound queue, and
a REPLY that is placed with room stands at the back. -/

namespace Sys2Proof.Machine

variable {s : State} {i : Instr}

@[simp] theorem State.takeMessages_zero (s : State) : State.takeMessages 0 s = s := rfl

/-- With nothing inbound no message is taken. -/
theorem State.serve_empty (h : s.port.inbound = []) : s.serve = s := by simp [State.serve, h]

/-- With the outbound queue full no message is taken (R175). -/
theorem State.serve_full (h : 16 ≤ s.port.outbound.length) : s.serve = s := by
  unfold State.serve
  cases k : s.port.inbound with
  | nil => rfl
  | cons m rest => simp [State.takeMessages, k, Nat.not_lt.mpr h]

/-- The one message that waits is handled, and no other is left, when its handling leaves none inbound. -/
theorem State.serve_one {m : List Byte} (one : s.port.inbound = [m]) (room : s.port.outbound.length < 16) :
    s.serve = s.popInbound.handleMessage m := by
  simp [State.serve, State.takeMessages, one, room]

/-- What every taken message keeps, the taking of all that may be taken keeps (R175). -/
theorem State.takeMessages_keeps {P : State → Prop}
    (keeps : ∀ (t : State) (m : List Byte), P t → t.port.inbound.head? = some m → t.port.outbound.length < 16 →
      P (t.popInbound.handleMessage m)) :
    ∀ (k : Nat) (s : State), P s → P (State.takeMessages k s)
  | 0, _, h => h
  | k + 1, s, h => by
    unfold State.takeMessages
    split
    · exact h
    · rename_i m rest inbound
      split
      · exact State.takeMessages_keeps keeps k _ (keeps s m h (by simp [inbound]) (by assumption))
      · exact h

/-- A request taken now is handled in the state its message has left (R175). -/
theorem State.arrive_taken (h : s.takesNow i = true) :
    s.arrive (requestBytes i) = s.taking.handleMessage (requestBytes i) := by
  simp only [State.takesNow, Bool.and_eq_true, decide_eq_true_eq, List.isEmpty_iff] at h
  obtain ⟨⟨-, none⟩, room⟩ := h
  have offered : s.offerInbound (requestBytes i) = s.setPort { s.port with inbound := [requestBytes i] } := by
    simp [State.offerInbound, none]
  have one := State.serve_one (s := s.setPort { s.port with inbound := [requestBytes i] }) (m := requestBytes i) rfl room
  rw [State.arrive, offered, one]
  simp [State.popInbound, State.setPort, State.taking, none]

/-- A taken message that decodes to a request is handled as that request (R175). -/
theorem State.handleMessage_decoded {m : List Byte} (h : decodeRequest m = some i) :
    s.handleMessage m = s.handleRequest i := by simp [State.handleMessage, h]

/-- The outbound queue has room when a request is taken. -/
theorem State.takesNow_room (h : s.takesNow i = true) : s.port.outbound.length < 16 := by
  simp only [State.takesNow, Bool.and_eq_true, decide_eq_true_eq] at h
  exact h.2

/-- A REPLY sent with room joins the back of the outbound queue. -/
theorem State.send_reply (code : Byte) (answer : Answer) (room : s.port.outbound.length < 16) :
    s.send (.reply code answer) = s.setPort { s.port with outbound := s.port.outbound ++ [.reply code answer] } := by
  rw [State.send, Port.place_reply code answer room]

/-- A state whose port is that of a taken request, answered, is that state answered. -/
theorem State.send_reply_taking (x : State) (code : Byte) (answer : Answer) (room : x.port.outbound.length < 16) :
    x.taking.send (.reply code answer) = x.answered code answer := State.send_reply code answer room

@[simp] theorem State.answer_error {α : Type} (s : State) (code : Byte) (reason : Reason) (effect : α → State) :
    s.answer code (.error reason) effect = s.refuse code reason := rfl

@[simp] theorem State.answer_ok {α : Type} (s : State) (code : Byte) (x : α) (effect : α → State) :
    s.answer code (.ok x) effect = effect x := rfl

end Sys2Proof.Machine
end

