-- ==== Sys2Proof/Laws/Rounds.lean ====
section
/-! SUPPORT. The ends of a hand-off: FAILED at its third round and CANCELLED, each with nothing that follows it, and the standing
records that a sound wheel settles. -/

namespace Sys2Proof.Machine

variable {s : State} {h : HandOff}

/-- With no marked operation among the batch, or a part in progress, none leaves at the end of a hand-off (R166, step 1). -/
theorem State.departEnded_none (ops : List Op)
    (stay : s.sister.part ≠ none ∨ ∀ e ∈ s.sister.opList, e.op ∈ ops → e.mark = none) : s.departEnded ops = s := by
  unfold State.departEnded
  split
  · rfl
  · rename_i noPart
    have unmarked := stay.resolve_left (fun k => k noPart)
    have none_leaves : (s.sister.opList.filter fun e => e.mark.isSome && e.among ops) = [] := by
      simp only [List.filter_eq_nil_iff, OpEntry.among, Bool.and_eq_true, decide_eq_true_eq, not_and]
      intro e mem marked among
      simp [unmarked e mem among] at marked
    have all_stay : (s.sister.opList.filter fun e => !(e.mark.isSome && e.among ops)) = s.sister.opList := by
      rw [List.filter_eq_self]
      intro e mem
      by_cases among : e.op ∈ ops
      · simp [unmarked e mem among]
      · simp [OpEntry.among, among]
    unfold State.departMarked
    simp only [none_leaves, all_stay]
    rfl

/-- Nothing follows the end of a hand-off without an open hand-off of its group or a waiting trigger of it and, where a
follow-on is due, without a free operation of its slot (R166, steps 2 and 3). -/
theorem State.afterEnding_quiet {follow : Bool} (free : follow = true → s.sister.freeOps h.slot = []) (closed : s.sister.openOf h.group = none)
    (waiting : s.sister.triggers.find? (fun q => q.group == h.group) = none) : s.afterEnding h follow = s := by
  have quiet (fuel : Nat) : State.settleGroup (fuel + 1) h.group none s = s := by simp [State.settleGroup, closed, waiting]
  cases follow
  · exact quiet _
  · simp only [State.afterEnding, Sister.settleFuel, if_true]
    rw [State.settleGroup, if_pos (by simp [free rfl])]
    exact quiet _

/-- A hand-off whose third round ends and that nothing follows ends FAILED, with its NO_SISTER notice (R161, R164, R166). -/
theorem State.endRound_failed (round : 3 ≤ h.round) (alone : s.failsAlone h) :
    s.endRound h = (s.failed h).sendSwap
      { kind := .noSister, group := some h.group, slot := some h.slot, slot2 := none, peer := none, moved := h.pairs
        dropped := [] } := by
  obtain ⟨stay, free, triggers⟩ := alone
  have failed : s.failHandOff h = (s.failed h).sendSwap
      { kind := .noSister, group := some h.group, slot := some h.slot, slot2 := none, peer := none, moved := h.pairs
        dropped := [] } := by
    have setFailed : s.setSister { (s.sister.dropHandOff h.group).mapEntries (fun e => e.among h.pairs && e.status == .handing)
          (fun e => { e with status := if h.trigger = .wear then .active else .orphan }) with
        standing := s.sister.standing ++ [h.toStanding] } = s.failed h := by
      simp [State.failed, State.setSister, Sister.mapEntries, Sister.dropHandOff, OpEntry.among, HandOff.toStanding]
    refine Eq.trans (State.departEnded_none h.pairs ?_) (congrArg (State.sendSwap · _) setFailed)
    refine stay.imp id fun unmarked e mem => ?_
    obtain ⟨e', mem', rfl⟩ := List.mem_map.mp mem
    intro among
    have := unmarked e' mem'
    split at among <;> split <;> exact this among
  have closed : ((s.failed h).sister.openOf h.group) = none := by
    simp [Sister.openOf, State.failed, List.find?_eq_none]
  have waiting : s.sister.triggers.find? (fun q => q.group == h.group) = none := by
    simpa [List.find?_eq_none] using triggers
  unfold State.endRound
  rw [if_neg (by omega), failed]
  exact State.afterEnding_quiet (fun _ => free) closed waiting

/-- A hand-off that is cancelled with no operation to leave and no waiting trigger of its group: its AWARD with no winner is
offered, its operations are ACTIVE on its slot and its LOCAL notice is queued (R166, R168). -/
theorem State.cancelHandOff_quiet
    (stay : s.sister.part ≠ none ∨ ∀ e ∈ s.sister.opList, e.op ∈ h.pairs → e.mark = none)
    (waiting : ∀ q ∈ s.sister.triggers, q.group ≠ h.group) :
    s.cancelHandOff h = ((s.queueFrame (.award h.tag h.group none)).setSister (s.cancelled h).sister).sendSwap
      { kind := .local, group := some h.group, slot := some h.slot, slot2 := none, peer := none, moved := h.pairs
        dropped := [] } := by
  have offered : (s.queueFrame (.award h.tag h.group none)).sister = s.sister := by
    unfold State.queueFrame State.offerFrame; split <;> rfl
  have settled : (s.sister.dropHandOff h.group).mapEntries (fun e => e.among h.pairs && e.status == .handing)
      (fun e => { e with status := .active, slot := h.slot }) = (s.cancelled h).sister := by
    simp [State.cancelled, Sister.mapEntries, Sister.dropHandOff, OpEntry.among]
  unfold State.cancelHandOff
  simp only [offered, settled]
  rw [State.departEnded_none]
  · refine State.afterEnding_quiet (follow := false) nofun ?_ ?_
    · exact (by simp [Sister.openOf, State.cancelled, List.find?_eq_none] : (s.cancelled h).sister.openOf h.group = none)
    · exact (by simpa [List.find?_eq_none] using waiting : s.sister.triggers.find? (fun q => q.group == h.group) = none)
  · refine stay.imp id fun unmarked e mem => ?_
    obtain ⟨e', mem', rfl⟩ := List.mem_map.mp mem
    intro among
    have := unmarked e' mem'
    split at among <;> split <;> exact this among

/-- Erasing the members of a list that meet a condition, one by one, leaves those that do not. -/
theorem foldl_erase_filter {α : Type} [DecidableEq α] (p : α → Bool) :
    ∀ l : List α, (l.filter p).foldl List.erase l = l.filter fun x => !p x
  | [] => rfl
  | x :: l => by
    have skip : ∀ (rs k : List α), x ∉ rs → rs.foldl List.erase (x :: k) = x :: rs.foldl List.erase k := by
      intro rs
      induction rs with
      | nil => intros; rfl
      | cons r rs ih =>
        intro k h
        have hr : (x == r) = false := by simpa using fun e => h (by simp [e])
        simpa [List.erase_cons, hr] using ih (k.erase r) (fun m => h (by simp [m]))
    by_cases h : p x
    · simp [h, foldl_erase_filter p l]
    · rw [List.filter_cons_of_neg h, skip _ l fun m => h (List.mem_filter.mp m).2, foldl_erase_filter p l]
      simp [h]

/-- Settling some records in order moves the pairs of them all, and takes them all away. -/
theorem State.foldl_settleStanding (slot : Fin 8) :
    ∀ (records : List Standing) (s : State), (records.foldl (fun s r => s.settleStanding slot r) s).sister =
      { s.sister with
        standing := records.foldl List.erase s.sister.standing
        opList := s.sister.opList.map fun e =>
          if e.op ∈ records.flatMap Standing.pairs then { e with slot := slot, status := .active } else e }
  | [], s => by simp
  | r :: records, s => by
    have one : (s.settleStanding slot r).sister =
        { s.sister with
          standing := s.sister.standing.erase r
          opList := s.sister.opList.map fun e => if e.op ∈ r.pairs then { e with slot := slot, status := .active } else e } := by
      simp [State.settleStanding, State.sendSwap, State.send, Sister.mapEntries, OpEntry.among]
    rw [List.foldl_cons, State.foldl_settleStanding slot records, one]
    simp only [List.map_map, List.foldl_cons, List.flatMap_cons, List.mem_append]
    congr 1
    refine List.map_congr_left fun e _ => ?_
    by_cases h : e.op ∈ r.pairs <;> by_cases k : e.op ∈ records.flatMap Standing.pairs <;> simp [h, k, -List.mem_flatMap]

/-- A sound wheel settles every standing record of its group at once: their pairs are ACTIVE on its slot (R168). -/
theorem State.settleAll_sister (slot : Fin 8) (group : Option Nat) :
    (s.settleAll slot group).sister = (s.settled slot group).sister := by
  rw [State.settleAll, State.foldl_settleStanding, foldl_erase_filter]
  rfl

end Sys2Proof.Machine
end

