-- ==== Sys2Proof/Tests/Slice0.lean ====
section
/-! SUPPORT. Tests of the model against the worked cases of the spec, the smoke test of WellFormed, and for each statement
that has hypotheses a named witness that meets them together, each clause at a boundary of its range. -/

namespace Sys2Proof.Tests

set_option Elab.async false

open Sys2Proof Sys2Proof.Machine

/-! ## Small states -/

/-- The state a command leaves. -/
def after (i : Instr) (s : State) : State :=
  match exec i s with
  | .next t => t
  | _ => s

/-- Station 5, every other figure at its default. -/
def figures : Figures := takeFigures [(1#8, 5#32)]

/-- A wheel at wheelhead 0, group 3. -/
def wheel : Tool :=
  { state := .inService, kind := .wheel, seat := .wheelhead .w0, id := 7, group := some 3, full := 480000, life := 48110
    warn := 48000, contacts := ⟨none, none, none⟩, dressRun := 1, dressBlocked := false, overrun := false }

/-- The dresser roll of wheelhead 0. -/
def roll : Tool :=
  { wheel with kind := .dresser, seat := .dresser .w0, group := none, full := 200000, life := 61400, warn := 20000, dressRun := 0 }

/-- A CONFIGURED station with nothing mounted. -/
def configured : State := { State.reset with station := .configured, config := some figures }

/-- A RUNNING station with a wheel in slot 0 and its roll in slot 1. -/
def running : State :=
  { configured with station := .running, tools := ((Vector.replicate 8 none).set 0 (some wheel)).set 1 (some roll) }

/-- Variant 2, journal 5, a PIN. -/
def op : Op := ⟨2, 5⟩

/-- The operation-list entry of that journal on slot 0. -/
def entry : OpEntry := { op := op, cls := .pin, slot := 0, lender := none, status := .active, mark := none }

/-- A part of variant 2 in progress with that entry in the list. -/
def inPart : State := { running with sister := { running.sister with opList := [entry], part := some 2 } }

/-- An envelope whose 64 points are alike. -/
def envelope : Envelope := { m := 4, step := 50, eRef := 2400000, points := Vector.replicate 64 ⟨1480, 2260⟩ }

/-- The working state of a journal that grinds on an envelope slot. -/
def journal : Journal :=
  { op := op, cls := .pin, slot := 0, key := 69, source := some (.envelope 11), window := [], samplesArmed := 300
    idlePower := some 350, contactRun := 0, candidate := none, runPowers := [], crashRun := 0, stillRun := 0, lowRun := 7
    highRun := 0, heavy := false, verdict := none, energy := 2880000, peakP := 0, peakA := 0, samples := 0, heldCount := 0
    contacted := true, deadline := 40000 }

/-- A station that grinds that journal in a phase on channel 0. -/
def grinding (phase : JournalPhase) (j : Journal) : State :=
  { inPart with
    channels := ⟨{ activity := .journal phase j, teach := none }, Channel.reset⟩
    store := { inPart.store with slots := inPart.store.slots.set 11 (.ready 69 envelope) } }

/-- The working state of the journal on channel 0. -/
def journalOn (s : State) : Option Journal :=
  match s.channels.w0.activity with
  | .journal _ j => some j
  | _ => none

/-- A sample with nothing amiss. -/
def sample : Sample := { p := 770, a := 100, position := 1233, advanced := true, held := false, lost := false }

/-- A dress of slots 0 and 1 in which contact was found. -/
def dress : Dress :=
  { wheelSlot := 0, rollSlot := 1, run := 0, runStart := none, contactSeen := true, sensorLoss := false, faultMark := false
    peakP := 0, peakA := 0, samples := 0, heldCount := 0, deadline := 40000 }

/-- A station that dresses. -/
def dressing (d : Dress) : State :=
  { running with channels := ⟨{ activity := .dressing d, teach := none }, Channel.reset⟩ }

/-- The copy a good receiver makes of a frame. -/
def copyOf (station : Nat) (body : FrameBody) : LineCopy :=
  some (cellsOf (frameHead station body ++ crcBytes (frameHead station body)))

/-- A state in which copies of these frames have begun. -/
def begun (frames : List FrameLines) (s : State) : State := { s with link := { s.link with begun := frames } }

/-- An open hand-off of group 3 under tag 41. -/
def handOff (phase : Phase) : HandOff :=
  { group := 3, slot := 0, seat := .wheelhead .w0, trigger := .wear, lender := none, batch := [⟨op, .pin⟩], needPlaces := 1
    needLife := 5000, round := 1, phase := phase, tag := 41, earlier := [], offers := [], timer := some 200 }

/-- A station with open hand-offs. -/
def calling (handOffs : List HandOff) : State := { inPart with sister := { inPart.sister with handOffs := handOffs } }

/-- A frame waiting in the transmit queue. -/
def waitingFrame (body : FrameBody) (attempts : Nat) (sending : Bool) : QueuedFrame :=
  { body := body, attempts := attempts, sending := sending }

/-- A station with these frames in its transmit queue. -/
def queued (frames : List QueuedFrame) : State := { running with link := { running.link with queue := frames } }

/-- A peer entry of station 9. -/
def peer : Peer :=
  { station := 9, heardAt := 100, live := true, status := { period := 200, free := 0, tools := [], held := [], reclaim := [] } }

/-! ## WellFormed refuses each kind of ill-formed command -/

theorem test_wellFormed_configure : wellFormed (.configure (List.replicate 51 (1#8, 5#32))) = false := by decide
theorem test_wellFormed_unknown_known : wellFormed (.unknownRequestCode [0x02#8]) = false := by decide
theorem test_wellFormed_unknown_empty : wellFormed (.unknownRequestCode []) = false := by decide
theorem test_wellFormed_unknown_long : wellFormed (.unknownRequestCode (List.replicate 256 0x44#8)) = false := by decide +kernel
theorem test_wellFormed_read : wellFormed (.fetchReadEnd (List.replicate 203 0#8)) = false := by decide +kernel
theorem test_wellFormed_write : wellFormed (.writeEnd (List.replicate 205 0#8)) = false := by decide +kernel
theorem test_wellFormed_no_copy : wellFormed (.statusReceived none none) = false := by decide
theorem test_wellFormed_long_copy : wellFormed (.callReceived none (some (List.replicate 993 (true, false)))) = false := by
  decide +kernel
theorem test_wellFormed_station : wellFormed (.peerStale 0) = false ∧ wellFormed (.peerRemoved 17) = false := by decide
theorem test_wellFormed_group : wellFormed (.windowExpiry 0) = false ∧ wellFormed (.awardTimerExpiry 32) = false := by decide
theorem test_wellFormed_accepts : wellFormed (.configure [(1#8, 5#32)]) = true ∧ wellFormed (.peerStale 16) = true ∧
    wellFormed (.windowExpiry 31) = true ∧ wellFormed (.unknownRequestCode [0x44#8]) = true := by decide

/-! ## The request messages of Table 11-6, written out -/

theorem test_decode_start : decodeRequest [0x02#8] = some .start := by decide
theorem test_decode_mount :
    decodeRequest [0x04#8, 2, 0, 1, 0, 0, 1, 2, 5, 0, 7, 0x53#8, 0, 0, 0, 0, 9] = some (.mount 2 0 1 258 5 480000 9) := by decide
theorem test_decode_dressEnd : decodeRequest [0x0D#8, 1, 1, 0xF4#8] = some (.dressEnd 1 500) := by decide
theorem test_decode_short : decodeRequest [0x0D#8, 1, 1] = none := by decide
theorem test_decode_configure :
    decodeRequest [0x01#8, 1, 0, 0, 0, 5, 12, 0xFF#8, 0xFF#8, 0xFF#8, 0xFF#8] = some (.configure [(1, 5), (12, -1)]) := by decide

/-! ## The worked cases of the spec -/

/-- 1.14: q 1,228 and charge 120 for E 2,880,000 against E_ref 2,400,000 with B_PIN 100. -/
theorem test_journal_charge :
    let r := (grinding .grinding journal).grindRecord .w0 journal false
    r.q = 1228 ∧ r.charge = 120 := by decide +kernel

/-- 1.14: the charge of 120 takes the wheel from 48,110 to 47,990 and to WORN. -/
theorem test_journalEnd_wears :
    ((after (.journalEnd 0) (grinding .grinding journal)).tools.get 0).map (fun t => (t.life, t.state, t.overrun, t.dressRun)) =
      some (47990, .worn, false, 0) := by decide +kernel

/-- 1.14: the grind record stands ahead of the TOOL NOTICE, and the REPLY is last. -/
theorem test_journalEnd_order :
    (after (.journalEnd 0) (grinding .grinding journal)).port.outbound.map OutMsg.isRecord = [true, false, false] := by
  decide +kernel

/-- 1.15: a charge of 2,930 stops at −A and takes the wheel from IN_SERVICE to SPENT with the overrun flag clear. -/
theorem test_charge_floor :
    let t := { wheel with full := 20000, life := 2100, warn := 2000 }.charge 500 2930
    t.life = -500 ∧ t.state = .spent ∧ t.overrun = false := by decide +kernel

/-- 1.15: with A 1,000 the next charge finds life at or below zero and sets the overrun flag. -/
theorem test_charge_overrun :
    ({ wheel with state := .spent, life := -830, warn := 2000 }.charge 1000 100).overrun = true := by decide +kernel

/-- 2.1: a change of one phase counts along 00, 10, 11. -/
theorem test_quadrature_counts :
    let t := after (.quadratureTransition .w0 ⟨true, true⟩) (after (.quadratureTransition .w0 ⟨true, false⟩) running)
    t.counters.w0.count = 2 ∧ t.counters.w0.fault = false := by decide +kernel

/-- 2.1: a change of both phases leaves the count and sets the fault flag. -/
theorem test_quadrature_fault :
    let t := after (.quadratureTransition .w0 ⟨true, true⟩) running
    t.counters.w0.count = 0 ∧ t.counters.w0.fault = true := by decide +kernel

/-- 2.4: S4 at 1,250,012 with p 610 declares contact at 1,250,000 on a baseline of 406, and the run's four powers give
581. -/
theorem test_sample_contact :
    let j := { journal with
      source := none, idlePower := some 406, contactRun := 3, candidate := some 1250000, runPowers := [505, 530, 560] }
    let t := (grinding .armed j).sampleJournal .w0 .armed j { sample with p := 610, position := 1250012 }
    t.counters.w0.contact = some 1250000 ∧ (t.channels.get .w0).state = .grinding ∧
      (journalOn t).map Journal.energy = some 581 := by decide +kernel

/-- 3.12: T12 with p 770 below 1,480 completes the eighth LOW sample in a row: LOSS, the feed is held and the wheel is
BROKEN, with the sample's 420 still added. -/
theorem test_sample_loss :
    let s := { grinding .grinding journal with
      counters := ⟨{ running.counters.w0 with contact := some 0 }, running.counters.w1⟩ }
    let t := s.sampleJournal .w0 .grinding journal sample
    t.holdAsserted .w0 = true ∧ (t.channels.get .w0).state = .held ∧ (t.tools.get 0).map Tool.state = some .broken ∧
      (journalOn t).map (fun k => (k.verdict, k.energy)) = some (some .loss, journal.energy + 420) := by decide +kernel

/-- 3.12: HOLD RELEASE of a HELD channel is refused WRONG_STATE. -/
theorem test_holdRelease_held :
    (after (.holdRelease 0) (grinding .held journal)).port.outbound = [.reply 0x0E (.refused .wrongState)] := by decide +kernel

/-- 1.14: reported 30 and measured 36 with dress_tol 4 give 36 with DEPTH_MISMATCH; 4.7: 30 and 32 give 30. -/
theorem test_dress_depth : reconcile 4 (some 30) (some 36) = (36, true) ∧ reconcile 4 (some 30) (some 32) = (30, false) := by
  decide +kernel

/-- 4.7: DRESS END charges the wheel d × K_w and the roll K_r, and clears the dress-due run. -/
theorem test_dressEnd_charges :
    let t := after (.dressEnd 0 30) (dressing dress)
    (t.tools.get 0).map (fun x => (x.life, x.dressRun)) = some (47810, 0) ∧
      (t.tools.get 1).map (fun x => x.life) = some 61300 := by decide +kernel

/-- 4.7: a journal of q 1,350 takes the run from 2 to 3 with the roll SPENT: DRESS DUE with BLOCKED set, ahead of the TOOL
NOTICE, and the wheel is dress blocked at 249,731. -/
theorem test_dress_due :
    let worn := { wheel with life := 249863, warn := 30000, dressRun := 2 }
    let s := ((grinding .grinding { journal with energy := 3164063 }).setTool 0 (some worn)).setTool 1
      (some { roll with state := .spent, life := -200 })
    let t := after (.journalEnd 0) s
    (t.tools.get 0).map (fun x => (x.life, x.dressRun, x.dressBlocked)) = some (249731, 3, true) ∧
      t.port.outbound[1]? = some (.dressDue
        { wheelSlot := 0, id := 7, wheelhead := .w0, run := 3, q := 1350, roll := some (1, .spent), blocked := true }) ∧
      (t.port.outbound[2]?).map (OutMsg.isToolNoticeFor 0) = some true := by decide +kernel

/-- R168: a MOUNT into the slot of an open hand-off of the tool's group cancels it. -/
theorem test_mount_cancels :
    let c := calling [{ handOff (.awarding 9) with slot := 7 }]
    let s := { c with sister := { c.sister with opList := [{ entry with slot := 7, status := .handing }], part := none } }
    let t := after (.mount 7 0 1 9 3 480000 0) s
    t.sister.handOffs = [] ∧ t.sister.opList = [{ entry with slot := 7 }] ∧
      (t.link.queue.map QueuedFrame.body).head? = some (.award 41 3 none) := by decide +kernel

/-- 5.8: the fetch queue as two demands and a prefetch arrive behind three prefetches. -/
theorem test_fetch_queue :
    let x : Store := { Store.reset with queue := [⟨34, .prefetch⟩, ⟨50, .prefetch⟩, ⟨37, .prefetch⟩] }
    (((x.placeDemand 36).placeDemand 52).placePrefetch 38).queue =
      [⟨36, .demand⟩, ⟨52, .demand⟩, ⟨34, .prefetch⟩, ⟨50, .prefetch⟩] := by decide +kernel

/-- 6.9: buffer values after G5 and the points of the envelope formed. -/
theorem test_teach_envelope :
    let b : TeachBuffer :=
      { key := 98, m := 4, step := 40, counted := 4, energySum := 9520000, grindOpen := false
        table := ((Vector.replicate 64 none).set 0 (some ⟨590, 735⟩)).set 25 (some ⟨1600, 1720⟩)
        grindTable := Vector.replicate 64 none }
    (b.envelope figures).eRef = 2380000 ∧ (b.envelope figures).points[0] = ⟨390, 1035⟩ ∧
      (b.envelope figures).points[25] = ⟨1400, 2020⟩ ∧ (b.envelope figures).points[26] = ⟨0, 4095⟩ := by decide +kernel

/-- 7.7: the keys of variant 2, journal 1 on wheelhead 1 and of variant 5, journal 0 on wheelhead 0. -/
theorem test_keys : keyOf .w1 ⟨2, 1⟩ = 81 ∧ keyOf .w0 ⟨5, 0⟩ = 160 := by decide +kernel

/-- 8.4: station 3 needs 94 bit times after one collision and station 8 needs 154. -/
theorem test_backOff :
    requiredGap 3 (waitingFrame (.offer ⟨11, 0, 6, true, 0, 0, 0, 0, 0⟩) 1 false) = 94 ∧
      requiredGap 8 (waitingFrame (.offer ⟨11, 0, 6, true, 0, 0, 0, 0, 0⟩) 1 false) = 154 := by decide +kernel

/-- 8.4: an OFFER has a payload of 12 bytes. -/
theorem test_offer_payload : (FrameBody.offer ⟨11, 0, 6, true, 310000, 3, 0, 2, 3⟩).payload.length = 12 := by decide +kernel

/-- 10.12: DECLINE TOO_LATE from station 9 takes the hand-off to round 2 under the next tag. -/
theorem test_decline_round :
    let s := begun [.a] (calling [{ handOff (.awarding 9) with timer := none }])
    let t := after (.declineReceived (copyOf 9 (.decline 5 41 .tooLate)) none)
      { s with sister := { s.sister with tag := 42 } }
    t.sister.handOffs.map (fun h => (h.round, h.tag, h.earlier)) = [(2, 42, [(41, some 9)])] ∧ t.sister.tag = 43 := by
  decide +kernel

/-- 11.7: a TOOL NOTICE that waits behind the one being sent joins the back when MCS_N rises early. -/
theorem test_notice_superseded :
    let n := running.noticeOf 0
    let m := { n with tool := n.tool.map fun f => { f with state := .spent } }
    let s := { running with port := { running.port with
      select := .low, sending := true, outbound := [.toolNotice n, .linkNotice .silent]
      pendingNotices := running.port.pendingNotices.set 0 (some m) } }
    (after (.transactionEnd []) s).port.outbound = [.linkNotice .silent, .toolNotice m] := by decide +kernel

/-- R174: after the last byte of a message MSO gives zeros, and the message's bytes go most significant bit first. -/
theorem test_mso :
    let p := { running.port with select := .low, shifter := [0x85#8] }
    (List.range 10).map p.mso = [some true, some false, some false, some false, some false, some true, some false, some true,
      some false, some false] := by decide +kernel

/-- R175: a message that waits for a full outbound queue is taken and answered the moment a message has left it. -/
theorem test_waiting_message_taken :
    let s := { running with port := { running.port with
      inbound := [[0x02#8]], sending := true, outbound := List.replicate 16 (.linkNotice .silent) } }
    (after .outboundMessageSent s).port.outbound.getLast? = some (.reply 0x02 (.refused .wrongState)) ∧
      (after .outboundMessageSent s).port.inbound = [] := by decide +kernel

/-- R134: a copy on a line where no copy began is absent. -/
theorem test_copy_not_begun :
    exec (.takenReceived (copyOf 9 (.taken 5 1)) none) running = .next running := rfl

/-- R134: a pattern in the payload of a copy, as in the bytes 0xAA 0xCD, begins no other, and one after a quiet line does. -/
theorem test_pattern_in_payload :
    let s := after (.lineEdge .a ⟨true, some 40⟩) running
    let within := after (.lineEdge .a ⟨false, some 40⟩) s
    s.link.begun = [.a] ∧ within.link.begun = [.a] ∧ (after (.lineEdge .b ⟨true, some 2⟩) within).link.begun = [.both] ∧
      (after (.lineEdge .b ⟨true, some 3⟩) within).link.begun = [.a, .b] := by decide +kernel

/-- R131, log entry 41: the station's own frame gives up the copies in progress. -/
theorem test_frameBegin_givesUp :
    let s := begun [.both] (queued [waitingFrame (.taken 9 1) 0 false])
    (after (.frameBegin 10) s).link.begun = [] := by decide +kernel

/-- R76, R77: a write of key 69 erases and programs from byte address 282,624. -/
theorem test_flash_write :
    (FlashPort.writing 11 69 [] false).commands =
      [.writeEnable, .sectorErase 282624, .statusUntilReady 400, .writeEnable, .pageProgram 282624 [], .statusUntilReady 10
      , .read 282624 204] := by decide +kernel

/-! ## The hypotheses of the statements are met -/

theorem witness_stepRunsFrontCommand_idle : State.reset.pending = [] := rfl

theorem witness_configure_fit :
    let l := [(1#8, 16#32), (12#8, -1#32), (13#8, 1#32), (28#8, 0#32), (36#8, 2#32)]
    State.reset.takesNow (.configure l) = true ∧ State.reset.station = .unconfigured ∧ figuresFit l :=
  ⟨by decide +kernel, by decide +kernel, by simp [figuresFit]⟩

theorem witness_configure_unfit :
    State.reset.takesNow (.configure [(1#8, 17#32)]) = true ∧ ¬ figuresFit [(1#8, 17#32)] ∧ ¬ figuresFit [(1#8, 0#32)] ∧
      ¬ figuresFit [(1#8, 1#32), (28#8, 3#32)] :=
  ⟨by decide +kernel, by simp [figuresFit], by simp [figuresFit], by simp [figuresFit]⟩

theorem witness_configure_wrongState :
    configured.takesNow (.configure [(1#8, 1#32)]) = true ∧ configured.station ≠ .unconfigured := by decide +kernel

theorem witness_figureRanges :
    figureRanges[0]? = some ⟨1, 16, 0⟩ ∧ figureRanges[35]? = some ⟨0, 2, 2⟩ ∧ figuresFit [(1#8, 1#32), (2#8, 499#32)] ∧
      listedFigure [(1#8, 1#32), (2#8, 499#32)] 2 = some 499 ∧ listedFigure [(1#8, 1#32), (2#8, 499#32)] 3 = none :=
  ⟨by decide +kernel, by decide +kernel, by simp [figuresFit], by decide +kernel, by decide +kernel⟩

theorem witness_start :
    configured.takesNow .start = true ∧ configured.station = .configured ∧ configured.link.queue = [] ∧
      configured.sister.lastSent = none ∧ running.takesNow .start = true ∧ running.station ≠ .configured := by decide +kernel

theorem witness_restart :
    running.takesNow .restart = true ∧ running.station ≠ .unconfigured ∧ State.reset.takesNow .restart = true ∧
      State.reset.station = .unconfigured := by decide +kernel

/-- A RESTART that finds a frame being sent. -/
theorem witness_restart_sending :
    let s := { running with link := { running.link with queue := [waitingFrame (.taken 9 1) 0 true], quietTime := 40 } }
    s.takesNow .restart = true ∧ s.station ≠ .unconfigured ∧ s.link.isSending = true := by decide +kernel

theorem witness_queryTool :
    running.takesNow (.queryTool 7) = true ∧ (7#8).toNat = (7 : Fin 8).val ∧ running.takesNow (.queryTool 8) = true ∧
      8 ≤ (8#8).toNat ∧ decodeRequest [0x44#8] = none ∧ running.takesNow (.unknownRequestCode [0x44#8]) = true := by decide +kernel

theorem witness_queryStation : running.takesNow .queryStation = true := by decide +kernel

theorem witness_requestsAnsweredOnce :
    wellFormed .start = true ∧ encodeRequest .start = some [0x02#8] ∧ configured.takesNow .start = true ∧
      exec .start configured = .next (after .start configured) := ⟨rfl, rfl, by decide +kernel, rfl⟩

theorem witness_requestsAnsweredOnce_event :
    running.inboundServed ∧ (∀ m, encodeRequest .sampleInstant = some m → running.takesNow .sampleInstant = false) ∧
      exec .sampleInstant running = .next (after .sampleInstant running) :=
  ⟨fun h => absurd rfl h, fun _ h => (nomatch h), rfl⟩

/-- A station with these messages outbound, the head being sent or not. -/
def outbound (messages : List OutMsg) (sending : Bool) : State :=
  { running with port := { running.port with outbound := messages, sending := sending } }

theorem witness_transactionStart :
    (outbound [.linkNotice .silent] false).port.select = .high ∧
      (outbound [.linkNotice .silent] false).port.outbound = [.linkNotice .silent] ∧ running.port.select = .high ∧
      running.port.outbound = [] := by decide +kernel

theorem witness_outboundMessageSent :
    let s := outbound [.linkNotice .silent] true
    s.port.sending = true ∧ s.port.outbound = [.linkNotice .silent] ∧ s.port.inbound = [] ∧
      ∀ slot, (OutMsg.linkNotice .silent).isToolNoticeFor slot = true → s.port.pendingNotices.get slot = none := by
  decide +kernel

/-- A message waits inbound for the place of the one being sent: a request, or bytes that are none. -/
theorem witness_outboundMessageSent_waiting :
    let s := outbound (List.replicate 16 (.linkNotice .silent)) true
    ∀ message ∈ [[0x11#8], [0x44#8]],
      let w := { s with port := { s.port with inbound := [message] } }
      w.port.inbound = message :: [] ∧ w.port.outbound.length = 16 ∧ w.port.outbound.head? = some (.linkNotice .silent) ∧
        (decodeRequest [0x11#8] = some .queryStation ∧ decodeRequest [0x44#8] = none) ∧
        encodeRequest .queryStation = some [0x11#8] ∧ message ≠ [] := by decide +kernel

/-- A station that sends the TOOL NOTICE of slot 0 with a newer one waiting behind it. -/
def superseded : State :=
  let s := outbound [.toolNotice (running.noticeOf 0)] true
  { s with port := { s.port with
      select := .low, pendingNotices := s.port.pendingNotices.set 0 (some { slot := 0, tool := none }) } }

theorem witness_superseded :
    superseded.port.sending = true ∧ superseded.port.select = .low ∧ superseded.port.inbound = [] ∧
      superseded.port.outbound = [.toolNotice (running.noticeOf 0)] ∧
      (OutMsg.toolNotice (running.noticeOf 0)).isToolNoticeFor 0 = true ∧
      superseded.port.pendingNotices.get 0 = some { slot := 0, tool := none } := by decide +kernel

/-- A station in a transaction, with this many messages inbound and outbound and so many bytes to shift. -/
def inTransaction (waiting there : Nat) (sending : Bool) (bytes : Nat) : State :=
  { running with port := { running.port with
      select := .low, inbound := List.replicate waiting [0x11#8], outbound := List.replicate there (.linkNotice .silent)
      sending := sending, shifter := List.replicate bytes 0 } }

/-- The message of a START with its length byte is 16 bits: none is sent, a message of 3 bytes is cut short, and one of 2
has gone. -/
theorem witness_transactionEnd :
    ([0x02#8] : List Byte).length = (1#8).toNat ∧ (List.replicate 255 0x44#8).length = (255#8).toNat ∧
      (inTransaction 3 16 false 0).port.sending = false ∧ (inTransaction 3 16 true 3).port.sending = true ∧
      (([1#8, 0x02#8]).flatMap byteBits).length < 8 * (inTransaction 3 16 true 3).port.shifter.length ∧
      8 * (inTransaction 3 16 true 2).port.shifter.length ≤ (([1#8, 0x02#8]).flatMap byteBits).length ∧
      (∀ slot, (OutMsg.linkNotice .silent).isToolNoticeFor slot = true →
        (inTransaction 3 16 true 3).port.pendingNotices.get slot = none) ∧
      16 < 8 * ({ superseded with port := { superseded.port with shifter := [0, 0, 0] } } : State).port.shifter.length := by
  decide +kernel

/-- With no complete message a message of 3 bytes is cut short after 7 clocks, one of 2 bytes too, and a TOOL NOTICE with a
newer one behind it. -/
theorem witness_transactionEnd_cutShort :
    (inTransaction 0 1 true 1).port.select = .low ∧ (inTransaction 0 1 true 1).port.sending = true ∧
      (List.replicate 7 true).length < 8 * (inTransaction 0 1 true 1).port.shifter.length ∧
      (List.replicate 7 true).length < 8 ∧ (inTransaction 0 1 true 1).port.outbound.head? = some (.linkNotice .silent) ∧
      (List.replicate 7 true).length < 8 * ({ superseded with port := { superseded.port with shifter := [0] } } : State).port.shifter.length := by
  decide +kernel

/-- A full reset that finds MCS_N low leaves its rise to be waited for. -/
theorem witness_transactionEnd_ignored :
    (after (.fullReset ⟨false, false⟩ ⟨false, false⟩ true) running).port.select = .ignored := by decide +kernel

/-- A message arrives in each of its cases. -/
theorem witness_arrive :
    16 ≤ (inTransaction 3 16 false 0).port.outbound.length ∧ (inTransaction 3 16 false 0).port.inbound.length < 4 ∧
      4 ≤ (inTransaction 4 16 false 0).port.inbound.length ∧ (inTransaction 0 15 false 0).port.inbound = [] ∧
      (inTransaction 0 15 false 0).port.outbound.length < 16 ∧ encodeRequest .start = some [0x02#8] ∧
      decodeRequest [0x02#8] = some .start ∧ decodeRequest [0x44#8] = none := by decide +kernel

theorem witness_transactionEnd_incomplete :
    (inTransaction 0 1 false 0).port.select = .low ∧ (inTransaction 0 1 false 0).port.sending = false ∧
      8 * (inTransaction 0 1 true 0).port.shifter.length ≤ (List.replicate 7 true).length ∧
      (List.replicate 7 true).length < 8 ∧ (byteBits 1 ++ List.replicate 7 true = byteBits 1 ++ List.replicate 7 true ∧
        (List.replicate 7 true).length < 8 * (1#8).toNat) := by decide +kernel

/-- A station full at both queues, with a command waiting. -/
def full : State :=
  { inTransaction 4 16 true 0 with
    port := { (inTransaction 4 16 true 0).port with
      outbound := List.replicate 12 (.unwatched op .notMine) ++ List.replicate 4 (.linkNotice .silent), sending := true }
    link := { running.link with queue := List.replicate 8 (waitingFrame (.taken 9 1) 0 false) }
    pending := [.journalEnd 0] }

theorem witness_queuesKeepTheirBounds :
    full.queuesBounded ∧ full.sendingHead ∧ step full = .next (after (.journalEnd 0) { full with pending := [] }) :=
  ⟨by unfold State.queuesBounded State.inboundServed; decide +kernel, by unfold State.sendingHead; decide +kernel, rfl⟩

theorem witness_oneToolNoticePerSlot :
    let s := { superseded with pending := [.outboundMessageSent] }
    s.sendingHead ∧ s.noticesSound ∧ step s = .next (after .outboundMessageSent superseded) := by
  refine ⟨by unfold State.sendingHead; decide +kernel, fun slot => ⟨?_, fun n h => ?_⟩, rfl⟩
  · revert slot; decide +kernel
  · by_cases k : slot = 0
    · subst k
      have : n = { slot := 0, tool := none } := by
        rw [show superseded.port.pendingNotices.get 0 = some { slot := 0, tool := none } by decide +kernel] at h
        exact (Option.some.inj h).symm
      subst this; exact ⟨rfl, by decide +kernel⟩
    · exfalso
      have : ∀ slot : Fin 8, slot ≠ 0 → superseded.port.pendingNotices.get slot = none := by decide +kernel
      rw [this slot k] at h; exact nomatch h

theorem witness_routing_hold :
    ((grinding .held { journal with verdict := some .loss }).grindRecord .w0 { journal with verdict := some .loss } false).verdict =
      .hold .loss := by decide +kernel

theorem witness_mount :
    running.takesNow (.mount 7 0 1 9 31 480000 0) = true ∧ running.station ≠ .unconfigured ∧
      (7#8).toNat = (7 : Fin 8).val ∧ kindOf 0 = some .wheel ∧ seatOf 1 = some (.wheelhead .w1) ∧
      seatSuits .wheel (.wheelhead .w1) = true ∧ (31#8).toNat ≤ 31 ∧ running.tools.get 7 = none ∧
      running.findTool (fun t => t.seat == .wheelhead .w1) = none := by decide +kernel

/-- Each refusal of a MOUNT, at the first value past its check. -/
theorem witness_mount_refused :
    State.reset.takesNow (.mount 0 0 0 9 3 480000 0) = true ∧ State.reset.station = .unconfigured ∧
      running.takesNow (.mount 8 0 0 9 3 480000 0) = true ∧ 8 ≤ (8#8).toNat ∧ 31 < (32#8).toNat ∧ kindOf 2 = none ∧
      seatOf 5 = none ∧ seatSuits .wheel (.dresser .w0) = false ∧ running.tools.get 0 ≠ none ∧
      running.findTool (fun t => t.seat == .wheelhead .w0) ≠ none ∧ running.tools.get 7 = none := by decide +kernel

/-- A standing record of group 3 that covers the operation. -/
def record : Standing :=
  { group := 3, slot := 1, seat := .wheelhead .w1, trigger := .dressBlocked, lender := none, pairs := [op], needPlaces := 1
    needLife := 5000 }

/-- Hand-offs that are cancelled: with an operation that leaves, with none that leaves, and with a trigger that waits in the
group, whose slot has a free operation. -/
theorem witness_cancels :
    let h := handOff .calling
    let c := calling [h]
    let marked : OpEntry := { entry with lender := some 9, mark := some .reclaim, status := .handing }
    let other : OpEntry := { entry with op := ⟨2, 6⟩, slot := 4 }
    let q : Trigger := { slot := 4, group := 3, seat := .rack, kind := .wear }
    let s := { c with sister := { c.sister with opList := [other, { entry with status := .handing }], triggers := [q] } }
    let y : State := { s.cancelled h with sister := { (s.cancelled h).sister with triggers := [] } }
    (({ c with sister := { c.sister with opList := [marked], part := none } } : State).sister.part.isNone && marked.mark.isSome &&
        decide (marked.op ∈ h.pairs)) = true ∧
      c.sister.triggers = [] ∧ c.sister.part.isNone = false ∧ s.sister.triggers.find? (fun k => k.group == h.group) = some q ∧
      y.sister.freeOps q.slot = other :: [] ∧ y.localSister q = none ∧ y.link.framesHeld < 8 ∧
      1 ≤ y.sister.lentRoom := by decide +kernel

/-- The trigger that waits opens its hand-off with the transmit queue full, and nothing follows its FAILED ending. -/
theorem witness_cancels_crowded :
    let h := handOff .calling
    let c := calling [h]
    let other : OpEntry := { entry with op := ⟨2, 6⟩, slot := 4 }
    let q : Trigger := { slot := 4, group := 3, seat := .rack, kind := .wear }
    let s := { c with
      sister := { c.sister with opList := [other, { entry with status := .handing }], triggers := [q] }
      link := (queued (List.replicate 8 (waitingFrame (.taken 9 1) 0 false))).link }
    let y : State := { s.cancelled h with sister := { (s.cancelled h).sister with triggers := [] } }
    let u := y.openedFor q none [⟨⟨2, 6⟩, .pin⟩]
    8 ≤ s.link.framesHeld ∧ 8 ≤ y.link.framesHeld ∧ y.sister.freeOps 4 = other :: [] ∧ u.sister.part ≠ none ∧
      (u.failed (y.firstRound q none [⟨⟨2, 6⟩, .pin⟩])).sister.freeOps 4 = [] ∧ u.sister.triggers = [] := by decide +kernel

/-- The reports of a MOUNT: with no hand-off of the slot and with one, of a sound wheel with a standing record of its group,
and of a WORN one. -/
theorem witness_reportMount :
    let c := calling [handOff .calling]
    let ours (h : HandOff) : Bool := h.slot == 0 && some h.group == wheel.group
    c.sister.handOffs.find? ours = some (handOff .calling) ∧ running.sister.handOffs.find? ours = none ∧
      wheel.kind = .wheel ∧ wheel.seat = .wheelhead .w0 ∧ wheel.state = .inService ∧
      ({ c with sister := { c.sister with standing := [record] } } : State).sister.standing = [record] ∧
      some record.group = wheel.group ∧ ({ wheel with state := .worn } : Tool).state ≠ .fresh := by decide +kernel

theorem witness_dismount :
    running.takesNow (.dismount 0) = true ∧ running.station ≠ .unconfigured ∧ (0#8).toNat = (0 : Fin 8).val ∧
      running.tools.get 0 = some wheel ∧ running.seatBusy wheel.seat = false ∧ running.sister.reservations.get 0 = none ∧
      (grinding .grinding journal).seatBusy wheel.seat = true ∧ (grinding .grinding journal).takesNow (.dismount 0) = true ∧
      (grinding .grinding journal).tools.get 0 = some wheel := by
  decide +kernel

theorem witness_dismount_refused :
    State.reset.takesNow (.dismount 0) = true ∧ State.reset.station = .unconfigured ∧ running.takesNow (.dismount 8) = true ∧
      8 ≤ (8#8).toNat ∧ running.takesNow (.dismount 7) = true ∧ (7#8).toNat = (7 : Fin 8).val ∧ running.tools.get 7 = none := by
  decide +kernel

/-- Each clause on a charge meets a tool; 110 takes the wheel exactly to its warning level, 48,110 to 0. -/
theorem witness_charge :
    (wheel.charge 1000 110).life = wheel.warn ∧ (wheel.charge 1000 48110).life = 0 ∧ wheel.state = .inService ∧
      ({ wheel with state := .worn }.charge 1000 1).life = 48109 ∧ wheel.state ≠ .broken := by decide +kernel

/-- Each clause on the energy ratio meets a journal: E_ref 0, and ratios at 512 and 4096. -/
theorem witness_energyRatio :
    (((grinding .grinding journal).store.slots.get 11).envelope = some envelope) ∧ envelope.eRef ≠ 0 ∧
      1200000 * 1024 / envelope.eRef = 512 ∧ 9600000 * 1024 / envelope.eRef = 4096 ∧
      ({ envelope with eRef := 0 } : Envelope).eRef = 0 ∧ journal.source = some (.envelope 11) := by decide +kernel

theorem witness_journalCharge :
    1 ≤ figures.baseCost .pin ∧ figures.baseCost .pin ≤ 4095 ∧ (journalOn (inPart.arm .w0 entry)).isSome = true := by
  decide +kernel

/-- A station whose wheel is BROKEN, with a command waiting. -/
def brokenWheel (i : Instr) : State :=
  { running with tools := running.tools.set 0 (some { wheel with state := .broken }), pending := [i] }

theorem witness_brokenStaysBroken :
    (brokenWheel (.dismount 0)).inboundServed ∧
      step (brokenWheel (.dismount 0)) = .next (after (.dismount 0) { brokenWheel (.dismount 0) with pending := [] }) ∧
      (brokenWheel (.dismount 0)).brokenAt 0 ∧ (brokenWheel .sampleInstant).brokenAt 0 :=
  ⟨fun h => absurd rfl h, rfl, show _ = true by decide +kernel, show _ = true by decide +kernel⟩

theorem witness_lifeStaysInRange :
    let s := { grinding .grinding journal with pending := [.journalEnd 0] }
    s.lifeSound ∧ step s = .next (after (.journalEnd 0) (grinding .grinding journal)) := by
  refine ⟨⟨fun slot t h => ?_, fun h => absurd h (by decide +kernel)⟩, rfl⟩
  have all : ∀ slot : Fin 8, (running.tools.get slot).all
      (fun t => decide (-(running.figures.overrunAllowance : Int) ≤ t.life ∧ t.life ≤ t.full)) = true := by decide +kernel
  have k := all slot
  rw [show running.tools.get slot = some t from h] at k
  exact of_decide_eq_true k

theorem witness_transitions :
    (grinding .grinding journal).wheelAt .w0 = some 0 ∧ (grinding .grinding journal).tools.get 0 = some wheel ∧
      (journalOn (grinding .grinding journal)) = some journal ∧ ((dressing dress).channels.get .w0).state = .dressing ∧
      ((grinding .held journal).channels.get .w0).state = .held ∧
      ((grinding .armed journal).channels.get .w0).activity = .journal .armed journal ∧ JournalPhase.armed ≠ .held := by
  decide +kernel

theorem witness_sensorFrame :
    let v : PerHead Reading := ⟨⟨4095, 0⟩, ⟨0, 4095⟩⟩
    v.w0.p < 4096 ∧ v.w0.a < 4096 ∧ v.w1.p < 4096 ∧ v.w1.a < 4096 ∧ (List.replicate 64 false).length = 64 ∧
      (((List.replicate 64 false).drop (16 * 3)).take 16).countP id % 2 = 0 := by decide +kernel

/-- Four words of odd parity that all carry channel 0, a frame abandoned at its 63rd bit, and no frame under way. -/
theorem witness_sensorFrame_garbled :
    let word := sensorWord 0 0
    let bits := word ++ word ++ word ++ word
    bits.length = 64 ∧ ((bits.drop (16 * 1)).take 3 ≠ numberBits 3 1) ∧ (bits.take 63).length < 64 ∧ bits.take 63 ≠ [] ∧
      running.sampler.partialFrame = none := by decide +kernel

theorem witness_sampleInstant :
    (∀ n ∈ [Wheelhead.w0, Wheelhead.w1], (running.channels.get n).state = .idle) ∧ running.sampler.pendingFrame = none ∧
      (after (.sensorFrame (frameEdges (sensorBits ⟨⟨4095, 0⟩, ⟨0, 4095⟩⟩))) running).sampler.pendingFrame =
        some ⟨⟨4095, 0⟩, ⟨0, 4095⟩⟩ ∧ (running.setActivity .w0 .stopped).channels.w0.state = .stopped := by decide +kernel

/-- The contact sample of 2.4 that stands just at its threshold. -/
theorem witness_fourthContact :
    let j := { journal with source := none, contactRun := 3, candidate := some 1250000 }
    let s := grinding .armed j
    let x := { sample with p := 350 + figures.contactMargin }
    x.lost = false ∧ x.a < s.figures.aeCrash ∧ j.contactRun = 3 ∧ j.candidate = some 1250000 ∧ j.idlePower = some 350 ∧
      350 + s.figures.contactMargin ≤ x.p ∧ s.wheelAt .w0 = some 0 ∧ s.tools.get 0 = some wheel ∧
      s.store.usable j.key = some 11 ∧ s.store.usable 70 = none := by decide +kernel

/-- A declaring sample that is the first crash sample as well, of a journal on an envelope, on none yet with one stored, and on
none yet with none stored. -/
theorem witness_declares_sources :
    let j := { journal with source := none, contactRun := 3, candidate := some 1250000 }
    ({ sample with a := figures.aeCrash } : Sample).lost = false ∧ j.crashRun = 0 ∧ journal.source = some (.envelope 11) ∧
      j.source = none ∧ (grinding .armed j).store.usable j.key = some 11 ∧
      ({ grinding .armed j with store := running.store } : State).store.usable j.key = none := by decide +kernel

/-- A sample in ARMED that declares nothing: the first, one below the threshold, and the third of a run, in a tool whose last
contact it passes by void_margin alone. -/
theorem witness_armed :
    let near := (grinding .armed journal).setTool 0 (some { wheel with contacts := { wheel.contacts with pin := some 0 } })
    let contact (j : Journal) (p : Nat) := j.idlePower.any fun idle => decide (idle + figures.contactMargin ≤ p)
    sample.lost = false ∧ sample.a < figures.aeCrash ∧ journal.crashRun = 0 ∧ contact { journal with idlePower := none } 4095 = false ∧
      contact journal (349 + figures.contactMargin) = false ∧ contact journal (350 + figures.contactMargin) = true ∧
      journal.contactRun ≠ 3 ∧ ({ journal with contactRun := 2 } : Journal).contactRun ≠ 3 ∧
      near.advance .w0 0 2000 ≤ near.figures.voidMargin := by decide +kernel

/-- Each verdict's clause meets a sample: a lost sensor, a second crash sample at the level, one count past void_margin,
and the low run at its limit. -/
theorem witness_verdicts :
    let s := grinding .armed journal
    let far := (grinding .armed journal).setTool 0 (some { wheel with contacts := { wheel.contacts with pin := some 0 } })
    let low := (journal.compare s.figures.contactMargin (s.bandEnvelope journal) (s.travel .w0 sample.position) sample.p).lowRun
    ({ sample with lost := true } : Sample).lost = true ∧ s.figures.aeCrash ≤ s.figures.aeCrash ∧
      1 ≤ ({ journal with crashRun := 1 } : Journal).crashRun ∧ sample.lost = false ∧ sample.a < s.figures.aeCrash ∧
      journal.contactRun ≠ 3 ∧ (s.figures.voidMargin : Int) < far.advance .w0 0 2001 ∧ s.figures.voidMargin = 2000 ∧
      sample.advanced = true ∧ low = 8 ∧ lossLimit s.figures.nLow (s.bandEnvelope journal) = 8 ∧
      ({ sample with advanced := false } : Sample).advanced = false ∧ ({ journal with stillRun := 14 } : Journal).stillRun < 15 := by
  decide +kernel

/-- A first crash sample one count past void_margin, and one that brings the low run to its limit, of a tool that is BROKEN
already and of one that is not. -/
theorem witness_verdicts_firstCrash :
    let x := { sample with a := figures.aeCrash }
    let s := grinding .grinding journal
    let far := s.setTool 0 (some { wheel with contacts := { wheel.contacts with pin := some 0 } })
    let spent := s.setTool 0 (some { wheel with state := .broken })
    x.lost = false ∧ figures.aeCrash ≤ x.a ∧ journal.crashRun = 0 ∧ (s.figures.voidMargin : Int) < far.advance .w0 0 2001 ∧
      journal.contactRun ≠ 3 ∧ lossLimit s.figures.nLow (s.bandEnvelope journal) ≤
        (journal.compare s.figures.contactMargin (s.bandEnvelope journal) (s.travel .w0 x.position) x.p).lowRun ∧
      s.tools.get 0 = some wheel ∧ wheel.state ≠ .broken ∧ spent.brokenAt 0 := by
  simp only [State.brokenAt]; decide +kernel

theorem witness_envelopeClass :
    1 ≤ envelope.step ∧ envelope.points[min (1233 / envelope.step) 63]? = some ⟨1480, 2260⟩ ∧
      envelope.points[min (1000000 / envelope.step) 63]? = some ⟨1480, 2260⟩ ∧ 1479 < 1480 ∧ 2260 < 2261 := by decide +kernel

/-- The coarse bound of 2.4's baseline: 350 and half the contact margin. -/
theorem witness_coarse :
    journal.idlePower = some 350 ∧ 349 + figures.contactMargin / 2 < 350 + figures.contactMargin / 2 ∧
      (({ running.counters.w0 with contact := some 0 } : Counter).contact = some 0) := by decide +kernel

/-- Samples after contact: not advancing at each side of a still run of 16, one low run short of LOSS on either band, and one
of a teach grind. -/
theorem witness_cutting :
    let s := grinding .grinding journal
    let j := { journal with lowRun := 6 }
    let coarse := { journal with source := some .coarse, lowRun := 14 }
    let taught := { journal with source := some .teach, lowRun := 0 }
    sample.lost = false ∧ sample.a < s.figures.aeCrash ∧ journal.crashRun = 0 ∧
      ({ sample with advanced := false } : Sample).advanced = false ∧ 15 ≤ ({ journal with stillRun := 15 } : Journal).stillRun ∧
      ({ journal with stillRun := 14 } : Journal).stillRun < 15 ∧
      (j.compare s.figures.contactMargin (s.bandEnvelope j) (s.travel .w0 sample.position) sample.p).lowRun = 7 ∧
      lossLimit s.figures.nLow (s.bandEnvelope j) = 8 ∧
      (coarse.compare s.figures.contactMargin (s.bandEnvelope coarse) 0 360).lowRun = 15 ∧
      lossLimit s.figures.nLow (s.bandEnvelope coarse) = 16 ∧ taught.source = some .teach ∧ (s.channels.get .w0).teach = none := by
  decide +kernel

theorem witness_holdEnds :
    let s := { (running.setActivity .w0 .stopped) with pending := [.holdRelease 0] }
    let c := { configured with pending := [.start] }
    s.inboundServed ∧ c.inboundServed ∧
      step s = .next (after (.holdRelease 0) (running.setActivity .w0 .stopped)) ∧ s.holdAsserted .w0 = true ∧
      (after (.holdRelease 0) (running.setActivity .w0 .stopped)).holdAsserted .w0 = false ∧
      step c = .next (after .start configured) ∧ c.holdAsserted .w1 = true ∧
      (after .start configured).holdAsserted .w1 = false :=
  ⟨fun h => absurd rfl h, fun h => absurd rfl h, rfl, by decide +kernel, by decide +kernel, rfl, by decide +kernel,
    by decide +kernel⟩

theorem witness_journalBegin :
    inPart.takesNow (.journalBegin 2 5) = true ∧ inPart.station = .running ∧ opOf 2 5 = some op ∧
      inPart.sister.part = some op.variant ∧ inPart.sister.isLent op = false ∧ inPart.sister.entry op = some entry ∧
      inPart.tools.get entry.slot = some wheel ∧ wheel.check inPart.figures.overrunAllowance = none ∧
      (inPart.channels.get .w0).state = .idle := by decide +kernel

/-- A station that fetches key 69 into slot 11. -/
def fetching (reads : Nat) : State :=
  { running with store := { running.store with
      slots := running.store.slots.set 11 (.filling 69), port := .fetching 11 69 reads false } }

/-- A store with a slot in a state, so many demands and so many prefetches. -/
def stored (slot : EnvSlot) (demands prefetches : List Nat) : Store :=
  { Store.reset with
    slots := Store.reset.slots.set 11 slot
    queue := demands.map (fun k => ⟨k, .demand⟩) ++ prefetches.map fun k => ⟨k, .prefetch⟩ }

/-- Each case of Table 5-2 for key 69: resident in slot 11, a bad key, requested already, and a queue with 3 and 4
requests. -/
theorem witness_lookup :
    (∀ e ∈ [EnvSlot.filling 69, .absent 69, .ready 69 envelope, .unsaved 69 envelope],
      (stored e [] []).resident 69 = some 11 ∧ (stored e [] []).slots.get 11 = e) ∧
    (stored .empty [] []).resident 69 = none ∧ (BitVec.twoPow 256 69).getLsbD 69 = true ∧
    (stored .empty [36, 69] [34]).queue = [⟨36, .demand⟩, ⟨69, .demand⟩] ++ [⟨34, .prefetch⟩] ∧
    (stored .empty [36] [34, 50, 69]).queue.length ≤ 4 ∧ (stored .empty [36] [34, 50]).queue.length < 4 ∧
    4 ≤ (stored .empty [36, 52, 37] [34]).queue.length ∧ 4 ≤ (stored .empty [36, 52, 37, 53] []).queue.length := by
  decide +kernel

/-- The store of a JOURNAL BEGIN with a busy port, with an idle one, and under a teach on the key. -/
theorem witness_journalBegin_store :
    let busy := { inPart with store := (fetching 0).store }
    let taught := inPart.setTeach .w0 (some
      { key := 69, m := 4, step := 40, counted := 0, table := Vector.replicate 64 none, energySum := 0
        grindTable := Vector.replicate 64 none, grindOpen := false })
    busy.store.port ≠ .idle ∧ busy.sister.opList = [] ++ entry :: [] ∧ inPart.store.port = .idle ∧
      inPart.store.queue = [] ∧ inPart.store.resident 69 = none ∧ inPart.store.badKeys.getLsbD 69 = false ∧
      inPart.chooseSlot = some 0 ∧ (taught.channels.get .w0).teach.isSome = true ∧ keyOf .w0 entry.op = 69 := by
  decide +kernel

theorem witness_journalBegin_spentAtLimit :
    ({ wheel with state := .spent, life := -999 } : Tool).check 1000 = none := by decide +kernel

theorem witness_unwatched :
    inPart.takesNow (.journalBegin 2 6) = true ∧ opOf 2 6 = some ⟨2, 6⟩ ∧ inPart.sister.entry ⟨2, 6⟩ = none ∧
      inPart.port.records < 12 ∧ inPart.port.outbound.length < 15 ∧
      ({ inPart with tools := inPart.tools.set 0 (some { wheel with state := .broken }) } : State).tools.get 0 =
        some { wheel with state := .broken } := by decide +kernel

/-- Each refusal of a JOURNAL BEGIN that leaves no record: of the station, a pair out of range, no part, another variant, no
tool at a wheelhead, a wheel SPENT at −A, and a busy channel. -/
theorem witness_journalBegin_refused :
    let spent : Tool := { wheel with state := .spent, life := -1000 }
    (∀ s ∈ [configured, running, inPart, grinding .grinding journal, inPart.setTool 0 none, inPart.setTool 0 (some spent)],
      s.takesNow (.journalBegin 2 5) = true) ∧ configured.station ≠ .running ∧ 8 ≤ (8#8).toNat ∧ 16 ≤ (16#8).toNat ∧
      running.sister.part = none ∧ inPart.sister.part = some 2 ∧ (⟨3, 5⟩ : Op).variant ≠ 2 ∧ opOf 3 5 = some ⟨3, 5⟩ ∧
      inPart.sister.isLent op = false ∧ inPart.sister.entry op = some entry ∧ (inPart.setTool 0 none).tools.get 0 = none ∧
      spent.life = -(inPart.figures.overrunAllowance : Int) ∧ wheel.check inPart.figures.overrunAllowance = none ∧
      ((grinding .grinding journal).channels.get .w0).state ≠ .idle := by decide +kernel

theorem witness_journalEnd :
    ((grinding .held journal).channels.get .w0).activity = .journal .held journal ∧ wheelheadOf 0 = some .w0 ∧
      (grinding .held journal).takesNow (.journalEnd 0) = true ∧ (grinding .held journal).station = .running ∧
      (grinding .held journal).tools.get journal.slot = some wheel := by decide +kernel

/-- Charged journals on each side of dress_ratio and of dress_count, of a wheel that is sound, BROKEN and dress blocked, with
a roll that is fit, SPENT and absent. -/
theorem witness_dressRun :
    let s := grinding .grinding { journal with energy := 3164063 }
    let r := s.grindRecord .w0 { journal with energy := 3164063 } false
    s.figures.dressRatio ≤ r.q ∧ ((grinding .grinding journal).grindRecord .w0 journal false).q < s.figures.dressRatio ∧
      wheel.dressRun + 1 < s.figures.dressCount ∧ ({ wheel with dressRun := 2 } : Tool).dressRun + 1 = s.figures.dressCount ∧
      wheel.state ≠ .broken ∧ wheel.dressBlocked = false ∧ s.rollAt .w0 = some 1 ∧ s.tools.get 1 = some roll ∧
      (s.setTool 1 none).rollAt .w0 = none ∧ (s.setTool 1 (some { roll with state := .spent })).rollAt .w0 = some 1 ∧
      Tool.noticed wheel (wheel.charge 1000 48110) = true := by decide +kernel

theorem witness_journalEnd_refused :
    configured.takesNow (.journalEnd 0) = true ∧ configured.station ≠ .running ∧ running.takesNow (.journalEnd 2) = true ∧
      2 ≤ (2#8).toNat ∧ wheelheadOf 1 = some .w1 ∧ (running.channels.get .w1).activity = .idle ∧
      ((dressing dress).channels.get .w0).activity = .dressing dress := by decide +kernel

theorem witness_holdRelease :
    ∀ a ∈ [Activity.stopped, .idle, .journal .held journal, .journal .armed journal, .dressing dress],
      (running.setActivity .w1 a).takesNow (.holdRelease 1) = true ∧ (running.setActivity .w1 a).station = .running ∧
        wheelheadOf 1 = some .w1 := by decide +kernel

theorem witness_holdRelease_refused :
    configured.takesNow (.holdRelease 0) = true ∧ configured.station ≠ .running ∧ running.takesNow (.holdRelease 2) = true ∧
      running.station = .running ∧ 2 ≤ (2#8).toNat := by decide +kernel

theorem witness_dressBegin :
    running.takesNow (.dressBegin 0) = true ∧ running.station = .running ∧ wheelheadOf 0 = some .w0 ∧
      running.wheelAt .w0 = some 0 ∧ running.rollAt .w0 = some 1 ∧ running.tools.get 0 = some wheel ∧
      running.tools.get 1 = some roll ∧ wheel.check running.figures.overrunAllowance = none ∧
      roll.check running.figures.overrunAllowance = none ∧ (running.channels.get .w0).state = .idle := by decide +kernel

/-- Each refusal of a DRESS BEGIN, and each answer of the tool check. -/
theorem witness_dressBegin_refused :
    let broken : Tool := { wheel with state := .broken }
    let spent : Tool := { roll with state := .spent, life := -1000 }
    (∀ s ∈ [configured, running.setTool 0 (some broken), running.setTool 1 (some spent), running.setTool 1 none,
        running.setTool 0 none, dressing dress], s.takesNow (.dressBegin 0) = true) ∧
      configured.station ≠ .running ∧ 2 ≤ (2#8).toNat ∧ running.takesNow (.dressBegin 2) = true ∧
      (running.setTool 0 none).wheelAt .w0 = none ∧ (running.setTool 0 (some broken)).wheelAt .w0 = some 0 ∧
      broken.check 1000 = some .toolBroken ∧ (running.setTool 1 none).rollAt .w0 = none ∧
      (running.setTool 1 (some spent)).rollAt .w0 = some 1 ∧ spent.check running.figures.overrunAllowance = some .toolSpent ∧
      spent.life = -((1000 : Nat) : Int) ∧ ((dressing dress).channels.get .w0).state ≠ .idle := by decide +kernel

/-- The samples of a dress at ae_dress, in each place of a run. -/
theorem witness_dressSample :
    let s := dressing dress
    ({ sample with lost := true } : Sample).lost = true ∧ sample.lost = false ∧
      ({ sample with a := s.figures.aeDress - 1 } : Sample).a < s.figures.aeDress ∧
      s.figures.aeDress ≤ ({ sample with a := s.figures.aeDress } : Sample).a ∧ dress.run = 0 ∧
      ({ dress with run := 1, runStart := some 12 } : Dress).runStart = some 12 := by decide +kernel

/-- The dresser VOID's clause meets a report one count above dress_tol with no contact seen. -/
theorem witness_dressEnd :
    let d := { dress with contactSeen := false }
    ((dressing d).channels.get .w0).activity = .dressing d ∧ d.wheelSlot ≠ d.rollSlot ∧
      (dressing d).tools.get d.wheelSlot = some wheel ∧ (dressing d).tools.get d.rollSlot = some roll ∧
      (dressing d).takesNow (.dressEnd 0 5) = true ∧ (dressing d).station = .running ∧
      (dressing d).figures.dressTol < min (5#16).toNat 500 ∧ d.contactSeen = false ∧ d.sensorLoss = false := by decide +kernel

/-- R71: an OVERLONG dress takes the measured depth, which R68 clamps to 500, and 0 without a dress-contact capture. -/
theorem test_overlongDepth :
    let measured (count : Pos) : State :=
      dressing dress |>.setCounter .w0 { running.counters.w0 with count := count, dressContact := some 1249710 }
    ((measured 1249742).dressRecord .w0 dress none).depth = 32 ∧
      ((measured 1250710).dressRecord .w0 dress none).depth = 500 ∧ ((dressing dress).dressRecord .w0 dress none).depth = 0 := by
  decide +kernel

theorem witness_dressEnd_refused :
    configured.takesNow (.dressEnd 0 5) = true ∧ configured.station ≠ .running ∧ running.takesNow (.dressEnd 2 5) = true ∧
      2 ≤ (2#8).toNat ∧ running.takesNow (.dressEnd 1 5) = true ∧ wheelheadOf 1 = some .w1 ∧
      (running.channels.get .w1).activity = .idle := by decide +kernel

/-- A slot unblocked with an open DRESS_BLOCKED hand-off and a standing DRESS_BLOCKED record. -/
theorem witness_reportUnblocked :
    let h := { handOff .calling with trigger := .dressBlocked, slot := 1 }
    let s := calling [h]
    let t := { s with sister := { s.sister with standing := [record] } }
    (t.sister.handOffs.filter fun h => h.slot == 1 && h.trigger == .dressBlocked) = [h] ∧
      (t.sister.standing.filter fun r => r.slot == 1 && r.trigger == .dressBlocked) = [record] ∧ op ∈ record.pairs := by
  decide +kernel

theorem witness_depth :
    let c := { running.counters.w0 with count := 1249742, dressContact := some 1249710 }
    let s := { dressing dress with counters := ⟨c, running.counters.w1⟩ }
    ((dressing dress).counters.get .w0).dressContact = none ∧ (s.counters.get .w0).dressContact = some 1249710 ∧
      32 = ((s.counters.get .w0).count - 1249710).toInt.natAbs ∧ ((36 : Int) - 32).natAbs ≤ s.figures.dressTol ∧
      s.figures.dressTol < ((37 : Int) - 32).natAbs := by decide +kernel

theorem witness_teach :
    running.takesNow (.teach 2 5 0 4 40) = true ∧ running.station ≠ .unconfigured ∧ opOf 2 5 = some op ∧
      wheelheadOf 0 = some .w0 ∧ (running.channels.get .w0).teach = none ∧ running.claims < 4 := by decide +kernel

/-- Each refusal of a TEACH: with four UNSAVED slots the write limit is reached for another key. -/
theorem witness_teach_refused :
    let unsaved : EnvSlot := .unsaved 70 envelope
    let full := { running with store := { running.store with slots := Vector.ofFn fun k => if k.val < 4 then unsaved else .empty } }
    State.reset.takesNow (.teach 2 5 0 4 40) = true ∧ State.reset.station = .unconfigured ∧
      running.takesNow (.teach 8 16 2 4 40) = true ∧ 8 ≤ (8#8).toNat ∧ 16 ≤ (16#8).toNat ∧ 2 ≤ (2#8).toNat ∧
      ((running.setTeach .w0 (some (TeachBuffer.start 69 4 40))).channels.get .w0).teach ≠ none ∧
      full.takesNow (.teach 2 5 0 4 40) = true ∧ (full.channels.get .w0).teach = none ∧ 4 ≤ full.claims ∧
      full.store.isUnsaved (keyOf .w0 op) = false := by decide +kernel

/-- A buffer that waits on key 69 for so many grinds more. -/
def buffer (more : Nat) : TeachBuffer :=
  { key := 69, m := 4, step := 40, counted := 4 - more, table := Vector.replicate 64 none, energySum := 0
    grindTable := Vector.replicate 64 none, grindOpen := true }

/-- A teach grind that closes as the last one counted, as an earlier one, and HEAVY. -/
theorem witness_teachGrind :
    let j := { journal with source := some .teach }
    let s (more : Nat) := (grinding .grinding j).setTeach .w0 (some (buffer more))
    (∀ more ∈ [1, 2], ((s more).channels.get .w0).activity = .journal .grinding j ∧
      ((s more).channels.get .w0).teach = some (buffer more) ∧ (s more).takesNow (.journalEnd 0) = true ∧ (s more).station = .running) ∧
      (j.verdict.isNone && !j.heavy && j.contacted) = true ∧ ((buffer 1).closeGrind true 0).counted = 4 ∧
      ((buffer 2).closeGrind true 0).counted < 4 ∧ ({ j with heavy := true } : Journal).heavy = true := by decide +kernel

/-- A store whose slots are all in a state, in LRU order. -/
def filled (e : EnvSlot) (s : State) : State :=
  { s with store := { s.store with slots := Vector.replicate 24 e, lru := envSlots } }

/-- A slot is chosen: the lowest EMPTY one, the oldest unpinned, and the oldest after one that a channel holds. -/
theorem witness_chooseSlot :
    let s := filled (.ready 70 envelope) (grinding .grinding { journal with source := some (.envelope 0) })
    running.store.slots.get 0 = .empty ∧ (∀ k ∈ envSlots, s.store.slots.get k ≠ .empty) ∧
      s.store.lru = [0] ++ 1 :: envSlots.drop 2 ∧ s.pinnedSlot 0 = true ∧ s.pinnedSlot 1 = false ∧ s.chooseSlot = some 1 ∧
      (filled (.ready 70 envelope) running).pinnedSlot 0 = false := by decide +kernel

/-- Eight points of that envelope in its flash record. -/
def block : List Byte := [0x5C, 0x88, 0xD4, 0x5C, 0x88, 0xD4, 0x5C, 0x88, 0xD4, 0x5C, 0x88, 0xD4] ++
  [0x5C, 0x88, 0xD4, 0x5C, 0x88, 0xD4, 0x5C, 0x88, 0xD4, 0x5C, 0x88, 0xD4]

/-- Bytes 0 to 9 of the record of key 69. -/
def head : List Byte := [0x6E, 0x5A, 69, 4, 0, 50, 0, 0x24, 0x9F, 0]

theorem record_body : recordBody 69 envelope =
    head ++ (block ++ (block ++ (block ++ (block ++ (block ++ (block ++ (block ++ block))))))) := by decide +kernel

/-- The CRC of the record, block by block. -/
theorem record_crc : crc16 (recordBody 69 envelope) = 0xE1B1#16 := by
  have h0 : head.foldl crcByte 0xFFFF#16 = 0x1573#16 := by decide +kernel
  have h1 : block.foldl crcByte 0x1573#16 = 0xE686#16 := by decide +kernel
  have h2 : block.foldl crcByte 0xE686#16 = 0xAF14#16 := by decide +kernel
  have h3 : block.foldl crcByte 0xAF14#16 = 0x48B2#16 := by decide +kernel
  have h4 : block.foldl crcByte 0x48B2#16 = 0xC3CC#16 := by decide +kernel
  have h5 : block.foldl crcByte 0xC3CC#16 = 0xD748#16 := by decide +kernel
  have h6 : block.foldl crcByte 0xD748#16 = 0x5C8B#16 := by decide +kernel
  have h7 : block.foldl crcByte 0x5C8B#16 = 0x7239#16 := by decide +kernel
  have h8 : block.foldl crcByte 0x7239#16 = 0xE1B1#16 := by decide +kernel
  simp only [crc16, record_body, List.foldl_append, h0, h1, h2, h3, h4, h5, h6, h7, h8]

theorem record_bytes : recordBytes 69 envelope = recordBody 69 envelope ++ [0xE1, 0xB1] := by
  rw [recordBytes, crcBytes, record_crc]; rfl

theorem record_good : judgeRead 69 (recordBytes 69 envelope) = .good envelope := by
  have t : (recordBytes 69 envelope).take 202 = recordBody 69 envelope := by
    rw [recordBytes]; exact List.take_left' (by decide +kernel)
  unfold judgeRead
  rw [t, record_crc, record_bytes]
  decide +kernel

/-- Each judgement of a read: the record of the key, one that fails its CRC, and an erased sector. -/
theorem witness_fetchRead :
    (fetching 2).store.port = .fetching 11 69 2 false ∧ (fetching 2).store.slots.get 11 = .filling 69 ∧
      (fetching 2).store.queue = [] ∧ (fetching 2).store.pendingWrites = [] ∧
      judgeRead 69 (recordBytes 69 envelope) = .good envelope ∧ judgeRead 69 (recordBody 69 envelope ++ [0, 0]) = .bad .crc ∧
      judgeRead 69 (List.replicate 204 0xFF#8) = .erased := by
  refine ⟨rfl, by decide +kernel, rfl, rfl, record_good, ?_, by decide +kernel⟩
  have t : (recordBody 69 envelope ++ [0, 0]).take 202 = recordBody 69 envelope := List.take_left' (by decide +kernel)
  unfold judgeRead
  rw [t, record_crc]
  decide +kernel

/-- A placement meets a resident slot whose fetch is under way, an EMPTY one, and one that is being written. -/
theorem witness_placement :
    (fetching 0).store.resident 69 = some 11 ∧ running.store.resident 69 = none ∧ running.chooseSlot = some 0 ∧
      running.store.port = .idle ∧ running.store.queue = [] ∧ running.store.pendingWrites = [] := by decide +kernel

/-- A read of a slot that a teach result has reached, whose write waits, and a fetch cut short by a RESTART. -/
theorem witness_fetchRead_discarded :
    let cut (slot : EnvSlot) : State :=
      { fetching 0 with store := { (fetching 0).store with
          slots := running.store.slots.set 11 slot, port := .fetching 11 69 0 true, pendingWrites := [11] } }
    (cut (.writing 69 envelope 0)).store.slots.get 11 ≠ .filling 69 ∧ (cut (.writing 69 envelope 0)).store.queue = [] ∧
      (cut (.writing 69 envelope 0)).store.slots.get 11 = .writing 69 envelope 0 ∧
      (cut (.writing 69 envelope 0)).store.pendingWrites = [11] ∧ (cut (.filling 69)).store.slots.get 11 = .filling 69 := by
  decide +kernel

/-- A station that writes slot 11. -/
def writing (attempts : Nat) (discard : Bool) : State :=
  { running with store := { running.store with
      slots := running.store.slots.set 11 (.writing 69 envelope attempts)
      port := .writing 11 69 (recordBytes 69 envelope) discard
      pendingWrites := if discard then [11] else [] } }

/-- A placement meets the slot whose write is in flight. -/
theorem witness_placement_writing : (writing 0 false).store.resident 69 = some 11 := by decide +kernel

theorem witness_writeEnd :
    (writing 1 false).store.slots.get 11 = .writing 69 envelope 1 ∧ (writing 0 true).store.queue = [] ∧
      (writing 0 true).store.port = .writing 11 69 (recordBytes 69 envelope) true ∧
      (writing 0 true).store.pendingWrites = [11] ∧ (writing 1 false).store.pendingWrites = [] ∧
      [] ≠ recordBytes 69 envelope :=
  ⟨rfl, rfl, rfl, rfl, rfl, by simp [recordBytes, recordBody]⟩

/-- An idle port takes the demand at the front ahead of a write, a write ahead of a prefetch, a prefetch with no write waiting,
and none; a busy port takes none. -/
theorem witness_arbitrate :
    let waiting (demands prefetches : List Nat) (writes : List (Fin 24)) : State :=
      { running with store := { stored (.writing 69 envelope 0) demands prefetches with pendingWrites := writes } }
    (waiting [36] [34] [11]).store.queue = ⟨36, .demand⟩ :: [⟨34, .prefetch⟩] ∧ (waiting [36] [34] [11]).chooseSlot = some 0 ∧
      (waiting [] [34] [11]).store.pendingWrites = 11 :: [] ∧
      (waiting [] [34] [11]).store.slots.get 11 = .writing 69 envelope 0 ∧
      (waiting [] [34] [11]).store.queue.head? = some ⟨34, .prefetch⟩ ∧ (waiting [] [34] []).store.pendingWrites = [] ∧
      (waiting [] [34] []).chooseSlot = some 0 ∧ (waiting [] [] []).store.port = .idle ∧ (waiting [] [] []).store.queue = [] ∧
      (fetching 0).store.port ≠ .idle := by decide +kernel

/-- R85: a demand starts ahead of a write that waits. -/
theorem test_demandBeforeWrite :
    let s := { running with store := { stored (.writing 69 envelope 0) [36] [] with pendingWrites := [11] } }
    s.arbitrate.store.port = .fetching 0 36 0 false ∧ s.arbitrate.store.pendingWrites = [11] := by decide +kernel

theorem witness_flashRecord : fitsBits 8 255 ∧ envelope.fits ∧ ({ envelope with m := 16 } : Envelope).fits := by
  unfold fitsBits Envelope.fits fitsBits; decide +kernel

theorem witness_fetchQueue :
    let s := { fetching 0 with
      store := { (fetching 0).store with queue := [⟨36, .demand⟩, ⟨52, .demand⟩, ⟨34, .prefetch⟩, ⟨50, .prefetch⟩] }
      pending := [.fetchReadEnd []] }
    s.store.queueSound ∧
      step s = .next (after (.fetchReadEnd []) { s with pending := [] }) :=
  ⟨by unfold Store.queueSound; decide +kernel, rfl⟩

/-- A station with no part in progress and one entry. -/
def listing : State := { inPart with sister := { inPart.sister with part := none } }

theorem witness_assign :
    listing.takesNow (.assign 7 15 2 0 1 2 5) = true ∧ listing.station ≠ .unconfigured ∧ listing.sister.part = none ∧
      opOf 7 15 = some ⟨7, 15⟩ ∧ classOf 2 = some .endFeature ∧ (0#8).toNat = (0 : Fin 8).val ∧
      listing.tools.get 0 = some wheel ∧ wheel.state ≠ .broken ∧ listing.sister.listed ⟨7, 15⟩ = false ∧
      listing.sister.isLent ⟨7, 15⟩ = false ∧ listing.sister.occupancy < 24 ∧ opOf 2 5 = some entry.op ∧
      listing.sister.opList = [] ++ entry :: [] := by decide +kernel

theorem witness_unassign :
    listing.takesNow (.unassign 2 5) = true ∧ opOf 2 5 = some op ∧ listing.sister.entry op = some entry ∧
      entry.status ≠ .handing := by decide +kernel

/-- Each refusal of an ASSIGN, at the first value past its check. -/
theorem witness_assign_refused :
    let full := { listing with sister := { listing.sister with opList := List.replicate 24 entry } }
    State.reset.takesNow (.assign 2 5 1 0 0 0 0) = true ∧ State.reset.station = .unconfigured ∧
      inPart.takesNow (.assign 2 5 1 0 0 0 0) = true ∧ inPart.sister.part ≠ none ∧
      (∀ i ∈ [Instr.assign 8 5 1 0 0 0 0, .assign 2 16 1 0 0 0 0, .assign 2 5 3 0 0 0 0, .assign 2 5 1 8 0 0 0, .assign 2 5 1 0 2 0 0,
          .assign 2 5 1 0 1 8 0, .assign 2 5 1 7 0 0 0, .assign 2 5 1 1 0 0 0, .assign 2 5 1 0 0 0 0, .assign 7 1 1 0 1 2 6],
        listing.takesNow i = true) ∧ listing.sister.part = none ∧ listing.tools.get 7 = none ∧ listing.tools.get 1 = some roll ∧
      roll.seat = .dresser .w0 ∧ listing.sister.listed op = true ∧ opOf 2 6 = some ⟨2, 6⟩ ∧
      listing.sister.listed ⟨2, 6⟩ = false ∧ full.takesNow (.assign 7 1 1 0 0 0 0) = true ∧
      full.sister.listed ⟨7, 1⟩ = false ∧ full.sister.isLent ⟨7, 1⟩ = false ∧ full.sister.occupancy = 24 ∧
      (brokenWheel .start).tools.get 0 = some { wheel with state := .broken } := by decide +kernel

theorem witness_unassign_refused :
    let handing : OpEntry := { entry with status := .handing }
    let s := { listing with sister := { listing.sister with opList := [handing] } }
    State.reset.takesNow (.unassign 2 5) = true ∧ inPart.takesNow (.unassign 2 5) = true ∧ inPart.sister.part ≠ none ∧
      listing.takesNow (.unassign 8 16) = true ∧ 8 ≤ (8#8).toNat ∧ 16 ≤ (16#8).toNat ∧ listing.takesNow (.unassign 2 6) = true ∧
      listing.sister.entry ⟨2, 6⟩ = none ∧ s.takesNow (.unassign 2 5) = true ∧ s.sister.entry op = some handing := by
  decide +kernel

theorem witness_partBegin :
    listing.takesNow (.partBegin 7) = true ∧ listing.station = .running ∧ (7#8).toNat < 8 ∧ listing.sister.part = none ∧
      (∀ n ∈ [Wheelhead.w0, .w1], listing.prefetchable 7 n entry = false) ∧ (fetching 0).store.port ≠ .idle ∧
      listing.prefetchable 2 .w0 entry = true ∧ listing.store.port = .idle ∧ listing.store.queue = [] ∧
      listing.store.pendingWrites = [] ∧ listing.sister.opList.find? (listing.prefetchable 2 .w0) = some entry ∧
      listing.store.resident 69 = none ∧ listing.store.badKeys.getLsbD 69 = false ∧ listing.chooseSlot = some 0 := by
  decide +kernel

theorem witness_part_refused :
    (∀ i ∈ [Instr.partBegin 2, .partEnd], configured.takesNow i = true ∧ running.takesNow i = true ∧ inPart.takesNow i = true) ∧
      configured.station ≠ .running ∧ running.takesNow (.partBegin 8) = true ∧ 8 ≤ (8#8).toNat ∧ inPart.sister.part ≠ none ∧
      running.sister.part = none ∧ (grinding .held journal).takesNow .partEnd = true ∧
      ((grinding .held journal).channels.get .w0).journalOpen = true := by decide +kernel

theorem witness_partEnd :
    inPart.takesNow .partEnd = true ∧ inPart.station = .running ∧ (inPart.sister.part).isSome = true ∧
      (∀ n ∈ [Wheelhead.w0, .w1], (inPart.channels.get n).journalOpen = false) ∧ entry.mark = none := by decide +kernel

/-- An entry adopted from station 9, marked to leave. -/
def adopted : OpEntry := { entry with lender := some 9, mark := some .reclaim }

theorem witness_partEnd_leaving :
    let s := { inPart with sister := { inPart.sister with opList := [adopted] } }
    s.takesNow .partEnd = true ∧ s.sister.part.isSome = true ∧ adopted.mark.isSome = true ∧ adopted.status ≠ .handing ∧
      s.link.framesHeld + 1 ≤ 8 := by decide +kernel

/-- Eight frames fill the transmit queue. -/
def crowded (s : State) : State := { s with link := (queued (List.replicate 8 (waitingFrame (.taken 9 1) 0 false))).link }

theorem witness_partEnd_crowded :
    let s := crowded { inPart with sister := { inPart.sister with opList := [adopted] } }
    s.takesNow .partEnd = true ∧ distinct ([adopted].filterMap OpEntry.lender) = [9] ∧ s.link.framesHeld = 8 := by decide +kernel

/-- An urgent CALL waits behind an OFFER of no haste. -/
theorem witness_candidate :
    let call := waitingFrame (.call ⟨41, 3, true, 50, 1, 5000, [⟨op, .pin, none⟩]⟩) 0 false
    let offer := waitingFrame (.offer ⟨9, 41, 3, false, 310000, 3, 0, 2, 1⟩) 0 false
    (queued [offer, call]).link.queue = [offer] ++ call :: [] ∧ call.body.isUrgent = true ∧
      offer.body.isUrgent = false ∧ requiredGap 5 call = 10 ∧ requiredGap 5 offer = 18 ∧
      (queued [offer]).station = .running := by decide +kernel

/-- A pattern completed on line B, at each side of the gap of 2 bit times: with no frame under way, with one begun on line A
alone, and with one begun on both; by a receiver that looks and one that does not, and while a frame is sent. -/
theorem witness_lineEdge :
    running.station ≠ .unconfigured ∧ running.link.isSending = false ∧ running.link.begun = [] ∧
      ((running.link.lines.get .b).looking || false) = false ∧ ((running.link.lines.get .b).looking || true) = true ∧
      (begun [.b, .a] running).link.begun = [.b] ++ .a :: [] ∧ FrameLines.a.has .a = true ∧ FrameLines.a.has .b = false ∧
      FrameLines.both.has .a = true ∧ FrameLines.both.has .b = true ∧ (begun [.b] running).link.begun = [.b] ∧
      (queued [waitingFrame (.taken 9 1) 0 true]).link.isSending = true := by decide +kernel

theorem witness_backOff : requiredGap 1 (waitingFrame (.taken 9 1) 0 false) = 10 ∧ backOff 16 0 = 180 := by decide +kernel

/-- A frame being sent at each side of the collision limit, alone in the queue: a STATUS, a CALL, an AWARD and a
TAKEN. -/
theorem witness_sending :
    ∀ body ∈ [FrameBody.status peer.status, .call ⟨41, 3, true, 50, 1, 5000, [⟨op, .pin, none⟩]⟩, .award 41 3 (some 9),
        .taken 9 1],
      (queued [waitingFrame body 6 true]).link.queue = [] ++ waitingFrame body 6 true :: [] ∧
        (waitingFrame body 6 true).attempts < 7 ∧ 7 ≤ (waitingFrame body 7 true).attempts ∧
        ((queued [waitingFrame body 7 true]).link.lines.get .a).up = true := by decide +kernel

/-- A CALL or an AWARD under the current tag of a hand-off in a round below the third, and one of no hand-off. -/
theorem witness_sending_round :
    let s := { calling [handOff .calling] with link := (queued [waitingFrame (.taken 9 1) 7 true]).link }
    s.sister.openOf 3 = some (handOff .calling) ∧ (handOff .calling).tag = 41 ∧ (handOff .calling).round < 3 ∧
      (calling [handOff (.awarding 9)]).sister.openOf 3 = some (handOff (.awarding 9)) ∧ s.link.framesHeld ≤ 8 ∧
      (∀ h ∈ s.sister.handOffs, (40#8) ≠ h.tag) ∧
      (FrameBody.status peer.status).isStatus = true ∧ (FrameBody.taken 9 1).isStatus = false := by decide +kernel

/-- The third round of a hand-off whose operation is HANDING ends with nothing that follows. -/
def third (phase : Phase) : State :=
  let c := calling [{ handOff phase with round := 3 }]
  { c with sister := { c.sister with opList := [{ entry with status := .handing }] } }

/-- The batch becomes an operation covered by the standing record, so no operation of the slot is free. -/
theorem witness_thirdRound :
    ∀ phase ∈ [Phase.calling, .awarding 9],
      let h := { handOff phase with round := 3 }
      (third phase).sister.openOf 3 = some h ∧ 3 ≤ h.round ∧ h.timer = some 200 ∧ (third phase).link.framesHeld < 8 ∧
        h.offers = [] ∧ (third phase).sister.part ≠ none ∧ ((third phase).failed h).sister.freeOps h.slot = [] ∧
        (third phase).sister.triggers = [] := by decide +kernel

/-- 10.12's rule at round 3: DECLINE TOO_LATE ends the hand-off FAILED, with a standing record and the batch ACTIVE. -/
theorem test_decline_failed :
    let t := after (.declineReceived (copyOf 9 (.decline 5 41 .tooLate)) none) (begun [.a] (third (.awarding 9)))
    t.sister.handOffs = [] ∧ t.sister.standing.map Standing.pairs = [[op]] ∧ t.sister.opList = [entry] := by decide +kernel

theorem witness_lineDown :
    let s := { running with link := { running.link with lines := ⟨{ Line.reset with up := false }, Line.reset⟩ } }
    (s.link.lines.get .a).up = false ∧ s.lineUp := by unfold State.lineUp; decide +kernel

/-- A frame of this station's own number is taken and dropped. -/
theorem witness_frameTaken :
    let s := begun [.a] running
    Instr.duplicateStation (copyOf 5 (.taken 9 1)) none ∈ takenFrames (copyOf 5 (.taken 9 1)) none ∧
      s.station ≠ .unconfigured ∧ s.link.isSending = false ∧
      s.link.frameEnds (copyOf 5 (.taken 9 1)) none = some (copyOf 5 (.taken 9 1), none) ∧
      (s.link.select (copyOf 5 (.taken 9 1)) none).map GoodCopy.station = some running.figures.station := by
  decide +kernel

/-- No frame is under way; one that waits for line B, ahead of one that has ended; and this station's own number is heard
with the flag clear and set. -/
theorem witness_copies :
    let s := begun [.both, .a] running
    running.link.begun = [] ∧ s.link.begun = [.both] ++ .a :: [] ∧ FrameLines.both.has .b = true ∧ FrameLines.a.has .b = false ∧
      copyOf 9 (.taken 5 1) ≠ none ∧ running.link.duplicate = false ∧
      (s.link.select (copyOf 5 (.taken 9 1)) none).map GoodCopy.station = some s.figures.station ∧
      (after (.duplicateStation (copyOf 5 (.taken 9 1)) none) s).link.duplicate = true := by decide +kernel

/-- The next bad copy on line A takes it DOWN, the other being GOOD. -/
theorem witness_lines :
    let s := begun [.both]
      { running with link := { running.link with lines := ⟨{ Line.reset with bad := 15 }, Line.reset⟩ } }
    let i := Instr.takenReceived (some []) (copyOf 9 (.taken 5 1))
    s.lineUp ∧ step { s with pending := [i] } = .next (after i s) ∧ (after i s).link.lines.a.up = false :=
  ⟨Or.inl rfl, rfl, by decide +kernel⟩

/-- The next good copy on a DOWN line A takes it UP. -/
theorem witness_lineUp :
    let lines : PerLine Line := ⟨{ Line.reset with up := false, good := 63 }, Line.reset⟩
    let s := begun [.both] { running with link := { running.link with lines := lines } }
    let copy := copyOf 9 (.taken 5 1)
    Instr.takenReceived copy copy ∈ takenFrames copy copy ∧ s.link.frameEnds copy copy = some (copy, copy) ∧
      (s.link.lines.get .a).up = false ∧ (after (.takenReceived copy copy) s).link.lines.a.up = true := by decide +kernel

theorem witness_linkFrame :
    (FrameBody.release 255 [⟨15, 15⟩]).fits ∧ (FrameBody.award 41 31 (some 16)).fits ∧ (FrameBody.decline 9 41 .unfit).fits := by
  refine ⟨?_, ⟨show _ < _ by decide, fun n h => ?_⟩, show _ < _ by decide, rfl⟩
  · simp only [FrameBody.fits, fitsBits, Op.fits]; decide
  · cases h; decide

/-- A copy begun on line A brings a state these contents from station 9. -/
def heard (s : State) (body : FrameBody) : Bool :=
  let l := (begun [.a] s).link
  let copy := copyOf 9 body
  let good : GoodCopy := { kind := body.kind.code, station := 9, payload := body.payload }
  decide (s.station ≠ .unconfigured) && decide (l.isSending = false) && decide (9 ≠ s.figures.station) &&
    decide (l.frameEnds copy none = some (copy, none)) && decide (l.select copy none = some good) &&
    decide (readFrame good.kind good.payload = some body)

theorem hears_of_heard (s : State) (body : FrameBody) (h : heard s body = true) :
    (begun [.a] s).hears (copyOf 9 body) none 9 body := by
  simp only [heard, Bool.and_eq_true, decide_eq_true_eq] at h
  obtain ⟨⟨⟨⟨⟨unconf, sending⟩, other⟩, ends⟩, sel⟩, reads⟩ := h
  exact ⟨unconf, sending, other, _, _, _, ends, sel, rfl, reads⟩

/-- Every kind of frame is heard by a station that is not sending. -/
theorem witness_hears :
    ∀ body ∈ [FrameBody.status peer.status, .call ⟨41, 3, true, 100, 1, 5000, [⟨op, .pin, none⟩]⟩,
        .offer ⟨5, 41, 3, false, 310000, 3, 0, 2, 1⟩, .award 41 3 (some 5), .taken 5 41, .decline 5 41 .tooLate, .release 5 [op]],
      (begun [.a] inPart).hears (copyOf 9 body) none 9 body := by
  intro body h
  refine hears_of_heard inPart body ?_
  revert body
  decide +kernel

/-- The peer view knows the station that is heard, has room for it, and is full with the view-full flag clear and set. -/
theorem witness_peerView :
    let view (peers : List Peer) (flag : Bool) : State :=
      { inPart with sister := { inPart.sister with peers := peers, viewFull := flag } }
    let others (k : Nat) := List.replicate k { peer with station := 11 }
    (∀ s ∈ [view [peer] false, view (others 14) false, view (others 15) false, view (others 15) true],
      heard s (.taken 5 41) = true) ∧
      (view [peer] false).sister.peer 9 = some peer ∧ (view (others 14) false).sister.peer 9 = none ∧
      (view (others 14) false).sister.peers.length < 15 ∧ (view (others 15) false).sister.peer 9 = none ∧
      15 ≤ (view (others 15) false).sister.peers.length ∧
      Instr.takenReceived (copyOf 9 (.taken 5 41)) none ∈ takenFrames (copyOf 9 (.taken 5 41)) none := by decide +kernel

/-- R146: a full view tells VIEW_FULL of the station it has no room for, once. -/
theorem test_viewFull :
    let view (flag : Bool) : State := begun [.a]
      { running with sister := { running.sister with peers := List.replicate 15 { peer with station := 11 }, viewFull := flag } }
    let told (flag : Bool) := (after (.takenReceived (copyOf 9 (.taken 6 41)) none) (view flag)).port.outbound
    told false = [.linkNotice (.viewFull 9)] ∧ told true = [] := by decide +kernel

/-- Frames that act on nothing of the sister unit: addressed to another station, of a DECLINE reason not listed, and under a tag
of which this station knows nothing. -/
theorem witness_ignored :
    (∀ body ∈ [FrameBody.taken 6 41, .decline 6 41 .tooLate, .decline 5 41 (.other 9), .decline 5 40 .tooLate,
        .decline 5 40 .withdrawn, .release 6 [op], .award 41 3 none], heard (calling [handOff (.awarding 9)]) body = true) ∧
      (calling [handOff (.awarding 9)]).sister.handOffs.find? (fun k => k.tag == 40 && k.awarded == some 9) = none ∧
      (calling [handOff (.awarding 9)]).sister.log = [] ∧ (calling [handOff (.awarding 9)]).reservedFor 9 41 = none := by
  decide +kernel

/-- A station that may offer its wheel for a CALL. -/
theorem witness_call :
    let c : CallBody := ⟨41, 3, true, 100, 1, 5000, [⟨⟨7, 1⟩, .pin, none⟩]⟩
    let s := running.setTool 0 (some { wheel with life := 400000 })
    heard s (.call c) = true ∧ (begun [.a] s).mayOffer 9 c = true ∧
      bestWheel ((begun [.a] s).headWheels.filter ((begun [.a] s).wheelEligible c)) =
        some (0, { wheel with life := 400000 }) ∧ s.link.framesHeld < 8 := by
  decide +kernel

theorem witness_offer :
    let s := calling [handOff .calling]
    heard s (.offer ⟨5, 41, 3, false, 310000, 3, 0, 2, 1⟩) = true ∧
      s.sister.isStale 9 = false ∧ s.sister.openOf 3 = some (handOff .calling) ∧ (handOff .calling).tag = 41 ∧
      (handOff .calling).phase = .calling ∧ (handOff (.awarding 9)).phase ≠ .calling ∧
      (handOff .calling).offers.Pairwise (fun y z => y.above z = true) := by decide +kernel

/-- A ninth offer, below 8 that stand in their rank. -/
theorem witness_ninthOffer :
    let eight := [11, 10, 9, 8, 7, 6, 5, 4].map fun k => (⟨k, 1000 * k, 3, 0, 2, 1⟩ : Offer)
    eight.Pairwise (fun y z => y.above z = true) ∧ eight.length = 8 ∧
      ∀ z ∈ eight, z.above ⟨3, 3000, 3, 0, 2, 1⟩ = true := by decide +kernel

/-- A reservation of slot 0 for station 9 under tag 41. -/
def reservation : Reservation :=
  { caller := 9, tag := 41, group := 3, ops := [⟨⟨7, 1⟩, .pin, none⟩], opsCount := 1, urgent := true, expiry := 600 }

/-- A station that holds that reservation. -/
def reserved (state : ToolState) : State :=
  let s := running.setTool 0 (some { wheel with state := state })
  { s with sister := { s.sister with reservations := s.sister.reservations.set 0 (some reservation) } }

theorem witness_award :
    heard (reserved .inService) (.award 41 3 (some 5)) = true ∧ heard (reserved .spent) (.award 41 3 (some 9)) = true ∧
      (reserved .inService).reservedFor 9 41 = some (0, reservation) ∧ (reserved .inService).fitToAdopt 0 reservation = true ∧
      (reserved .spent).fitToAdopt 0 reservation = false ∧ running.reservedFor 9 41 = none ∧
      (reserved .inService).sister.reservations.get 0 = some reservation := by decide +kernel

/-- R129: with the transmit queue full the answer to an AWARD is discarded and QUEUE_FULL names its kind. -/
theorem test_queueFull :
    (after (.awardReceived (copyOf 9 (.award 41 3 (some 5))) none) (begun [.a] (crowded running))).port.outbound =
      [.linkNotice (.queueFull .decline)] := by decide +kernel

/-- Each frame that this station answers finds the transmit queue full. -/
theorem witness_crowded :
    (∀ body ∈ [FrameBody.award 41 3 (some 5), .taken 5 41, .decline 5 41 .tooLate],
      heard (crowded (reserved .inService)) body = true) ∧
      8 ≤ (crowded (reserved .inService)).link.framesHeld ∧
      (crowded (reserved .inService)).reservedFor 9 41 = some (0, reservation) := by decide +kernel

theorem witness_taken :
    let c := calling [handOff (.awarding 9)]
    let s := { c with sister := { c.sister with opList := [{ entry with status := .handing }] } }
    heard s (.taken 5 41) = true ∧ s.sister.honours 9 41 = some (handOff (.awarding 9)) ∧ running.sister.honours 9 41 = none ∧
      (∀ e ∈ s.sister.opList, e.slot = (handOff (.awarding 9)).slot → e.status = .active →
        e.op ∈ (handOff (.awarding 9)).pairs) ∧
      ∀ q ∈ s.sister.triggers, q.group ≠ 3 := by decide +kernel

/-- A TAKEN under an earlier tag, while another station is awarded under the current one. -/
theorem witness_taken_earlier :
    let h := { handOff (.awarding 11) with tag := 42, round := 2, earlier := [(41, some 9)] }
    let c := calling [h]
    let s := { c with sister := { c.sister with opList := [{ entry with status := .handing }] } }
    heard s (.taken 5 41) = true ∧ s.sister.honours 9 41 = some h ∧ (41#8) ≠ h.tag ∧ h.awarded ≠ none ∧
      (∀ e ∈ s.sister.opList, e.slot = h.slot → e.status = .active → e.op ∈ h.pairs) ∧ s.sister.triggers = [] := by
  decide +kernel

theorem witness_decline :
    let s := calling [handOff (.awarding 9)]
    heard s (.decline 5 41 .tooLate) = true ∧
      s.sister.handOffs.find? (fun k => k.tag == 41 && k.awarded == some 9) = some (handOff (.awarding 9)) ∧
      s.sister.openOf 3 = some (handOff (.awarding 9)) ∧ (handOff (.awarding 9)).round < 3 ∧ s.link.framesHeld < 8 := by
  decide +kernel

/-- A third round that a DECLINE ends, and nothing that follows the FAILED ending. -/
theorem witness_decline_last :
    let s := third (.awarding 9)
    let h := { handOff (.awarding 9) with round := 3 }
    heard s (.decline 5 41 .unfit) = true ∧
      s.sister.handOffs.find? (fun k => k.tag == 41 && k.awarded == some 9) = some h ∧ s.sister.openOf 3 = some h ∧
      s.sister.part ≠ none ∧ (s.failed h).sister.freeOps h.slot = [] ∧ s.sister.triggers = [] := by decide +kernel

/-- A first round that a DECLINE ends with the transmit queue full, and nothing that follows the FAILED ending. -/
theorem witness_decline_crowded :
    let h := handOff (.awarding 9)
    let s := crowded { third (.awarding 9) with sister := { (third (.awarding 9)).sister with handOffs := [h] } }
    heard s (.decline 5 41 .tooLate) = true ∧ s.sister.openOf 3 = some h ∧ h.round < 3 ∧ 8 ≤ s.link.framesHeld ∧
      s.sister.part ≠ none ∧ (s.failed h).sister.freeOps h.slot = [] ∧ s.sister.triggers = [] := by decide +kernel

/-- Adoptions that a DECLINE WITHDRAWN undoes: one of an adopted pair, one of a pair that came home, one of both, and none;
with a part in progress and with none. -/
theorem witness_withdrawn :
    let a : Adoption := { caller := 9, tag := 41, sent := true, ops := [⟨op, none⟩] }
    let h : Adoption := { a with ops := [⟨op, some ⟨op, .pin, 3, 9⟩⟩] }
    let both : Adoption := { a with ops := h.ops ++ [⟨⟨6, 7⟩, none⟩] }
    (∀ x ∈ [a, h, both], heard { inPart with sister := { inPart.sister with log := [x] } } (.decline 5 41 .withdrawn) = true ∧
      ([x].reverse.find? fun y => y.caller == 9 && y.tag == 41) = some x) ∧
      (∀ o ∈ a.ops, o.home = none) ∧ (∀ o ∈ h.ops, o.home ≠ none) ∧ inPart.sister.part ≠ none ∧
      heard listing (.decline 5 41 .withdrawn) = true ∧ listing.sister.part = none ∧ running.sister.log = [] ∧ listing.sister.listed op = true := by decide +kernel

/-- The lent entries of two pairs, with this many places of the operation list taken. -/
def lendingTwo (taken : Nat) : State :=
  { running with sister := { running.sister with
      opList := List.replicate taken entry, lent := [⟨⟨6, 7⟩, .pin, 3, 9⟩, ⟨⟨6, 8⟩, .pin, 3, 9⟩] } }

/-- A RELEASE of two pairs with room for both, for the first of them and for none. -/
theorem witness_release :
    let ops : List Op := [⟨6, 7⟩, ⟨6, 8⟩]
    let listed (s : State) := s.sister.lent.filter fun e => e.holder == 9 && decide (e.op ∈ ops)
    (∀ taken ∈ [22, 23, 24], heard (lendingTwo taken) (.release 5 ops) = true ∧ (listed (lendingTwo taken)).length = 2 ∧
      ((listed (lendingTwo taken)).take (24 - (lendingTwo taken).sister.occupancy)).length = 24 - taken) ∧
      heard (lendingTwo 22) (.release 6 ops) = true := by
  decide +kernel

/-- The contents of a STATUS of station 9 that holds these pairs for this station and reclaims these groups. -/
def statusOf (held : List HeldEntry) (reclaim : List Nat) : StatusBody := { peer.status with held := held, reclaim := reclaim }

/-- A STATUS that reclaims group 3, with the operation adopted from its station in the list. -/
theorem witness_status_reclaim :
    let s := { listing with sister := { listing.sister with opList := [{ adopted with mark := none }] } }
    heard s (.status (statusOf [] [3])) = true ∧ s.heldForUs (statusOf [] [3]) = [] ∧ s.sister.handOffs = [] ∧ s.sister.standing = [] ∧ s.sister.lent = [] ∧
      s.groupOfSlot 0 = some 3 ∧ s.sister.part = none ∧ s.link.framesHeld < 8 := by decide +kernel

/-- A STATUS that no longer lists a lent operation, and one that lists an operation no lent entry covers, which came home
or did not. -/
theorem witness_status_lent :
    let lending := { listing with sister := { listing.sister with opList := [], lent := [⟨op, .pin, 3, 9⟩] } }
    let a : Adoption := { caller := 9, tag := 41, sent := true, ops := [⟨op, some ⟨op, .pin, 3, 9⟩⟩] }
    let home := { listing with sister := { listing.sister with log := [a] } }
    (∀ x ∈ [lending, listing, home], ∀ l ∈ [[], [⟨op, 5⟩]], heard x (.status (statusOf l [])) = true) ∧
      lending.heldForUs (statusOf [] []) = [] ∧
      lending.sister.occupancy + (lending.sister.lent.filter fun e => e.holder == 9).length ≤ 24 ∧
      (∀ taken ∈ [23, 24], heard (lendingTwo taken) (.status (statusOf [] [])) = true ∧ (lendingTwo taken).sister.standing = [] ∧
        (lendingTwo taken).sister.handOffs = [] ∧ (lendingTwo taken).heldForUs (statusOf [] []) = [] ∧
        ((lendingTwo taken).sister.lent.take (24 - (lendingTwo taken).sister.occupancy)).length = 24 - taken) ∧
      listing.heldForUs (statusOf [⟨op, 5⟩] []) = [entry.op] ∧ listing.sister.isLent op = false ∧
      listing.sister.entry op = some entry ∧ entry.lender = none ∧ entry.status ≠ .handing ∧
      listing.sister.homecoming 9 op = none ∧ listing.lendingGroup entry = some 3 ∧ 1 ≤ listing.sister.lentRoom ∧
      home.sister.homecoming 9 op = some a := by decide +kernel

/-- A STATUS of the awarded station that lists the batch. -/
theorem witness_status_taken :
    let c := calling [handOff (.awarding 9)]
    let s := { c with sister := { c.sister with opList := [{ entry with status := .handing }] } }
    heard s (.status (statusOf [⟨op, 5⟩] [])) = true ∧ s.sister.handOffs = [handOff (.awarding 9)] ∧ (handOff (.awarding 9)).awarded = some 9 ∧
      (handOff (.awarding 9)).lender = none ∧ s.sister.stillHanding (handOff (.awarding 9)) = true ∧
      (handOff (.awarding 9)).pairs = s.heldForUs (statusOf [⟨op, 5⟩] []) ∧ s.sister.standing = [] := by decide +kernel

/-- A standing record with a pair in the list, and a STATUS with a sister that serves it. -/
theorem witness_status_standing :
    let r : Standing := { group := 3, slot := 0, seat := .wheelhead .w0, trigger := .wear, lender := none, pairs := [op]
                          needPlaces := 1, needLife := 5000 }
    let body : StatusBody := { peer.status with free := 1, tools := [{ group := 3, state := 1, reserved := false, life := 5000 }] }
    let s := { inPart with sister := { inPart.sister with standing := [r], peers := [peer] } }
    heard s (.status body) = true ∧ s.sister.standing = [r] ∧ s.sister.peer 9 = some peer ∧ peer.live = true ∧ body.serves r = true ∧
      s.station = .running ∧ s.sister.openOf 3 = none ∧ 1 ≤ s.sister.lentRoom ∧ s.sister.entry op = some entry ∧
      running.sister.entry op = none ∧ s.link.framesHeld < 8 := by decide +kernel

/-- A standing record and a STATUS that serves it, of a station that had no entry, with room in the view and with none, and
with the transmit queue full. -/
theorem witness_status_unknown :
    let r : Standing := { group := 3, slot := 0, seat := .wheelhead .w0, trigger := .wear, lender := none, pairs := [op]
                          needPlaces := 1, needLife := 5000 }
    let body : StatusBody := { peer.status with free := 1, tools := [{ group := 3, state := 1, reserved := false, life := 5000 }] }
    let view (k : Nat) : State := { inPart with sister := { inPart.sister with
      standing := [r], peers := List.replicate k { peer with station := 11 } } }
    let trigger : Trigger := { slot := 0, group := 3, seat := .wheelhead .w0, kind := .wear }
    let x := { view 0 with sister := { (view 0).sister with standing := [] } }
    let u := x.openedFor trigger none [⟨op, .pin⟩]
    (∀ s ∈ [view 0, view 15, crowded (view 0)], heard s (.status body) = true ∧ s.sister.peer 9 = none) ∧
      (view 0).sister.peers.length < 15 ∧ 15 ≤ (view 15).sister.peers.length ∧ 8 ≤ (crowded (view 0)).link.framesHeld ∧
      u.sister.part ≠ none ∧ (u.failed (x.firstRound trigger none [⟨op, .pin⟩])).sister.freeOps 0 = [] ∧
      u.sister.triggers = [] := by decide +kernel

/-- Each case of a trigger meets a state: no free operation, one, no lent room, an open hand-off, a WEAR hand-off of the
slot, and a sound sister at the other wheelhead. -/
theorem witness_triggers :
    let alone := { inPart with sister := { inPart.sister with lent := List.replicate 16 ⟨⟨7, 7⟩, .pin, 1, 9⟩ } }
    let two := inPart.setTool 2 (some { wheel with seat := .wheelhead .w1 })
    running.sister.freeOps 0 = [] ∧ inPart.sister.freeOps 0 = entry :: [] ∧ inPart.sister.openOf 3 = none ∧
      (calling [handOff .calling]).sister.openOf 3 ≠ none ∧ 1 ≤ inPart.sister.lentRoom ∧ alone.sister.lentRoom = 0 ∧
      alone.sister.part ≠ none ∧ inPart.sister.triggers = [] ∧ inPart.wheelAt .w1 = none ∧
      two.wheelAt (otherHead .w0) = some 2 ∧
      (two.tools.get 2).map (fun t => (t.group, t.state)) = some (some 3, .inService) ∧
      (calling [handOff .calling]).sister.handOffs.find? (fun k => k.slot == 0 && k.trigger == .wear) =
        some (handOff .calling) ∧ (calling [handOff .calling]).link.framesHeld < 7 := by decide +kernel

/-- A trigger that opens a hand-off, and a BREAK that escalates one, with the transmit queue full: nothing follows the FAILED
ending. -/
theorem witness_triggers_crowded :
    let trigger : Trigger := { slot := 0, group := 3, seat := .wheelhead .w0, kind := .wear }
    let s := crowded inPart
    let u := s.openedFor trigger none [⟨op, .pin⟩]
    let h := handOff (.awarding 9)
    let c := crowded { third (.awarding 9) with sister := { (third (.awarding 9)).sister with handOffs := [h] } }
    8 ≤ s.link.framesHeld ∧ s.sister.freeOps 0 = entry :: [] ∧ u.sister.part ≠ none ∧
      (u.failed (s.firstRound trigger none [⟨op, .pin⟩])).sister.freeOps 0 = [] ∧ u.sister.triggers = [] ∧
      c.sister.handOffs.find? (fun k => k.slot == 0 && k.trigger == .wear) = some h ∧ h.awarded ≠ none ∧
      8 ≤ c.link.framesHeld ∧ c.sister.part ≠ none ∧
      (c.failed (c.laterRound h .break 1)).sister.freeOps h.slot = [] ∧ c.sister.triggers = [] := by decide +kernel

/-- The states a report tells of: none changed, to BROKEN, to SPENT, and to IN_SERVICE. -/
theorem witness_reportState :
    ∀ state ∈ [ToolState.inService, .broken, .spent],
      (running.setTool 0 (some { wheel with state := state })).tools.get 0 = some { wheel with state := state } := by
  decide +kernel

theorem witness_ageing :
    let s := { running with
      link := { running.link with silence := some 1200 }, sister := { running.sister with peers := [peer] } }
    s.link.silence = some 1200 ∧ s.sister.peer 9 = some peer ∧ peer.live = true := by decide +kernel

/-- A station whose one lent operation has a holder that leaves, with room in the list. -/
theorem witness_removed :
    let s := { running with sister := { running.sister with peers := [peer], lent := [⟨op, .pin, 3, 9⟩] } }
    s.sister.peer 9 = some peer ∧ (s.sister.lent.filter fun e => e.holder == 9) ≠ [] := by decide +kernel

theorem witness_statusOffered :
    let s := { running with sister := { running.sister with period := some 400, mark := true, lastSent := some 30 } }
    s.station = .running ∧ s.link.statusSending = false ∧ s.sister.period = some 400 ∧ s.sister.mark = true ∧
      s.sister.lastSent = some 30 := by decide +kernel

theorem witness_timers :
    let best : Offer := ⟨9, 310000, 3, 0, 2, 1⟩
    let h := { handOff .calling with offers := [best] }
    (calling [h]).sister.openOf 3 = some h ∧ h.timer = some 200 ∧ (calling [h]).link.framesHeld < 8 ∧ h.phase = .calling ∧
      h.offers = best :: [] ∧ (handOff (.awarding 9)).phase = .awarding 9 ∧
      (reserved .inService).sister.reservations.get 0 = some reservation ∧ (handOff .calling).offers = [] ∧ ({ handOff .calling with round := 2 } : HandOff).round < 3 := by
  decide +kernel

/-- The window and the award timer expire with the transmit queue full, in a round below the third and at it, with an offer to
award and with none. -/
theorem witness_timers_crowded :
    ∀ phase ∈ [Phase.calling, .awarding 9], ∀ round ∈ [2, 3], ∀ offers ∈ [[], [(⟨9, 310000, 3, 0, 2, 1⟩ : Offer)]],
      let h := { handOff phase with round := round, offers := offers }
      let s := crowded { third phase with sister := { (third phase).sister with handOffs := [h] } }
      s.sister.openOf 3 = some h ∧ h.timer = some 200 ∧ 8 ≤ s.link.framesHeld ∧ s.sister.part ≠ none ∧
        (s.failed h).sister.freeOps h.slot = [] ∧ s.sister.triggers = [] := by decide +kernel

theorem witness_handOffs :
    let s := { calling [handOff .calling] with pending := [.windowExpiry 3] }
    s.sister.handOffsSound ∧ step s = .next (after (.windowExpiry 3) (calling [handOff .calling])) :=
  ⟨by unfold Sister.handOffsSound; decide +kernel, rfl⟩

end Sys2Proof.Tests
end

section
/-! PROOF. Sensor frames (R30): what rising edges of SFR_CLK make of the sampler, and when 64 bits are a good frame. -/

namespace Sys2Proof.Machine.SensorFrames
open Sys2Proof Sys2Proof.Machine

/-- The sampler after some rising edges of SFR_CLK. -/
def takeEdges (x : Sampler) (edges : List (Bool × Bool)) : Sampler := edges.foldl (fun x e => x.edge e.1 e.2) x

theorem exec_sensorFrame (edges : List (Bool × Bool)) (s : State) :
    exec (.sensorFrame edges) s = .next { s with sampler := takeEdges s.sampler edges } := rfl

@[simp] theorem takeEdges_cons (x : Sampler) (e : Bool × Bool) (edges : List (Bool × Bool)) :
    takeEdges x (e :: edges) = takeEdges (x.edge e.1 e.2) edges := rfl

theorem takeEdges_append (x : Sampler) (edges more : List (Bool × Bool)) :
    takeEdges x (edges ++ more) = takeEdges (takeEdges x edges) more := List.foldl_append

/-! ## The three kinds of edge -/

/-- SFR_SYNC high begins a frame, whatever partial frame there was. -/
theorem edge_sync (x : Sampler) (dat : Bool) : x.edge true dat = { x with partialFrame := some [dat] } := rfl

/-- Without a partial frame an edge with SFR_SYNC low is ignored. -/
theorem edge_between {x : Sampler} (none : x.partialFrame = none) (dat : Bool) : x.edge false dat = x := by
  simp [Sampler.edge, none]

/-- A bit below the 64th joins the partial frame. -/
theorem edge_within {x : Sampler} {bits : List Bool} (held : x.partialFrame = some bits) (short : bits.length < 63)
    (dat : Bool) : x.edge false dat = { x with partialFrame := some (bits ++ [dat]) } := by
  simp [Sampler.edge, held, short]

/-- The 64th bit ends the frame, which becomes the pending one when it is good. -/
theorem edge_last {x : Sampler} {bits : List Bool} (held : x.partialFrame = some bits) (long : bits.length = 63)
    (dat : Bool) : x.edge false dat =
      { x with partialFrame := none, pendingFrame := (frameValues (bits ++ [dat])).or x.pendingFrame } := by
  cases good : frameValues (bits ++ [dat]) <;> simp [Sampler.edge, held, long, good]

/-! ## Runs of edges -/

theorem takeEdges_between {x : Sampler} (none : x.partialFrame = none) (levels : List Bool) :
    takeEdges x (levels.map fun b => (false, b)) = x := by
  induction levels with
  | nil => rfl
  | cons b levels ih => simpa [edge_between none] using ih

/-- Bits with SFR_SYNC low join a frame they do not complete. -/
theorem takeEdges_within (more : List Bool) {x : Sampler} {bits : List Bool} (held : x.partialFrame = some bits)
    (short : bits.length + more.length < 64) :
    takeEdges x (more.map fun b => (false, b)) = { x with partialFrame := some (bits ++ more) } := by
  induction more generalizing x bits with
  | nil => cases x; simp_all [takeEdges]
  | cons b more ih =>
    simp only [List.length_cons] at short
    rw [List.map_cons, takeEdges_cons, edge_within held (by omega), ih rfl (by simp; omega)]
    simp

/-- The first edge of a frame abandons the partial frame there was. -/
theorem takeEdges_abandons (x : Sampler) (before : Option (List Bool)) {bits : List Bool} (nonempty : bits ≠ []) :
    takeEdges { x with partialFrame := before } (frameEdges bits) = takeEdges x (frameEdges bits) := by
  cases bits with
  | nil => contradiction
  | cons b rest => simp only [frameEdges, takeEdges_cons, edge_sync]

/-- Fewer than 64 bits of a frame are kept as the partial frame. -/
theorem takeEdges_partial (x : Sampler) {bits : List Bool} (nonempty : bits ≠ []) (short : bits.length < 64) :
    takeEdges x (frameEdges bits) = { x with partialFrame := bits } := by
  cases bits with
  | nil => contradiction
  | cons b rest =>
    rw [frameEdges, takeEdges_cons, edge_sync,
      takeEdges_within rest (bits := [b]) rfl (by simpa [Nat.add_comm] using short)]
    rfl

/-- A frame counts as if it stood alone, whatever partial frame it abandons. -/
theorem takeEdges_alone (x : Sampler) (before : Option (List Bool)) {part bits : List Bool} (short : part.length < 64)
    (nonempty : bits ≠ []) :
    takeEdges { x with partialFrame := before } (frameEdges part ++ frameEdges bits) = takeEdges x (frameEdges bits) := by
  rw [takeEdges_append]
  cases part with
  | nil => exact takeEdges_abandons x before nonempty
  | cons b rest =>
    rw [takeEdges_partial _ (List.cons_ne_nil b rest) short]
    exact takeEdges_abandons x _ nonempty

/-- A complete frame becomes the pending frame when it is good, and is discarded when it is not. -/
theorem takeEdges_complete (x : Sampler) {bits : List Bool} (full : bits.length = 64) :
    takeEdges x (frameEdges bits) =
      { x with partialFrame := none, pendingFrame := (frameValues bits).or x.pendingFrame } := by
  have whole : bits ≠ [] := by rintro rfl; simp at full
  obtain ⟨start, last, rfl⟩ : ∃ start last, bits = start ++ [last] :=
    ⟨bits.dropLast, bits.getLast whole, (List.dropLast_concat_getLast whole).symm⟩
  have long : start.length = 63 := by simpa using full
  have nonempty : start ≠ [] := by rintro rfl; simp at long
  have split : frameEdges (start ++ [last]) = frameEdges start ++ [(false, last)] := by
    cases start <;> simp_all [frameEdges]
  rw [split, takeEdges_append, takeEdges_partial x nonempty (by omega)]
  exact edge_last (x := { x with partialFrame := some start }) rfl long last

/-! ## Good and garbled frames -/

@[simp] theorem length_numberBits (k n : Nat) : (numberBits k n).length = k := by
  induction k with
  | zero => rfl
  | succ k ih => simp [numberBits, ih]

/-- Bits read after a number double it for each. -/
theorem foldl_numberBits (k n acc : Nat) :
    (numberBits k n).foldl (fun acc b => acc * 2 + b.toNat) acc = acc * 2 ^ k + n % 2 ^ k := by
  induction k generalizing acc with
  | zero => simp [numberBits, Nat.mod_one]
  | succ k ih =>
    rw [numberBits, List.foldl_cons, ih, Nat.mod_pow_succ, Nat.toNat_testBit, Nat.add_mul, Nat.mul_assoc,
      ← Nat.pow_succ', Nat.add_assoc, Nat.add_comm (_ * _) (n % 2 ^ k), Nat.mul_comm (n / 2 ^ k % 2)]

theorem natOfBits_numberBits {k n : Nat} (fits : n < 2 ^ k) : natOfBits (numberBits k n) = n := by
  rw [natOfBits, foldl_numberBits, Nat.zero_mul, Nat.zero_add, Nat.mod_eq_of_lt fits]

/-- Three bits are those of the number they spell. -/
theorem numberBits_natOfBits {bits : List Bool} (three : bits.length = 3) : numberBits 3 (natOfBits bits) = bits := by
  match bits, three with
  | [a, b, c], _ => revert a b c; decide

@[simp] theorem length_sensorWord (place value : Nat) : (sensorWord place value).length = 16 := by
  simp [sensorWord]

/-- The last bit of a word makes its ones odd. -/
theorem countP_sensorWord (place value : Nat) : (sensorWord place value).countP id % 2 = 1 := by
  unfold sensorWord
  rw [List.countP_append, List.countP_singleton]
  generalize List.countP id (numberBits 3 place ++ numberBits 12 value) = ones
  by_cases even : ones % 2 = 0 <;> simp [even] <;> omega

theorem frameWord_sensorWord {place value : Nat} (hp : place < 8) (hv : value < 4096) :
    frameWord place (sensorWord place value) = some value := by
  have number : (sensorWord place value).take 3 = numberBits 3 place := by
    simp [sensorWord]
  have data : ((sensorWord place value).drop 3).take 12 = numberBits 12 value := by
    simp [sensorWord]
  rw [frameWord, if_pos ⟨countP_sensorWord place value, by rw [number, natOfBits_numberBits hp]⟩, data,
    natOfBits_numberBits hv]

@[simp] theorem length_sensorBits (v : PerHead Reading) : (sensorBits v).length = 64 := by simp [sensorBits]

/-- The frame of four values of 12 bits is good, and carries them. -/
theorem frameValues_sensorBits {v : PerHead Reading} (p0 : v.w0.p < 4096) (a0 : v.w0.a < 4096) (p1 : v.w1.p < 4096)
    (a1 : v.w1.a < 4096) : frameValues (sensorBits v) = some v := by
  have word0 : (sensorBits v).take 16 = sensorWord 0 v.w0.p := by
    rw [sensorBits, List.append_assoc, List.append_assoc, List.take_left' (length_sensorWord _ _)]
  have word1 : ((sensorBits v).drop 16).take 16 = sensorWord 1 v.w0.a := by
    rw [sensorBits, List.append_assoc, List.append_assoc, List.drop_left' (length_sensorWord _ _),
      List.take_left' (length_sensorWord _ _)]
  have word2 : ((sensorBits v).drop 32).take 16 = sensorWord 2 v.w1.p := by
    rw [sensorBits, List.append_assoc, List.drop_left' (by simp only [List.length_append, length_sensorWord]),
      List.take_left' (length_sensorWord _ _)]
  have word3 : ((sensorBits v).drop 48).take 16 = sensorWord 3 v.w1.a := by
    rw [sensorBits, List.drop_left' (by simp only [List.length_append, length_sensorWord]),
      List.take_of_length_le (Nat.le_of_eq (length_sensorWord _ _))]
  unfold frameValues
  rw [word0, word1, word2, word3, frameWord_sensorWord (by decide) p0, frameWord_sensorWord (by decide) a0,
    frameWord_sensorWord (by decide) p1, frameWord_sensorWord (by decide) a1]

/-- An even word, or one whose channel number is not its place, carries no value. -/
theorem frameWord_none {place : Nat} {bits : List Bool} (long : 3 ≤ bits.length)
    (bad : bits.countP id % 2 = 0 ∨ bits.take 3 ≠ numberBits 3 place) : frameWord place bits = none := by
  unfold frameWord
  rw [if_neg]
  rintro ⟨odd, number⟩
  rcases bad with even | misplaced
  · omega
  · exact misplaced (number ▸ (numberBits_natOfBits (by simp [long])).symm)

/-- One word without a value makes the whole frame garbled. -/
theorem frameValues_none {bits : List Bool} {place : Nat} (inside : place < 4)
    (bad : frameWord place ((bits.drop (16 * place)).take 16) = none) : frameValues bits = none := by
  unfold frameValues
  split
  · rename_i word0 word1 word2 word3
    match place, inside with
    | 0, _ => exact absurd (word0.symm.trans bad) (Option.some_ne_none _)
    | 1, _ => exact absurd (word1.symm.trans bad) (Option.some_ne_none _)
    | 2, _ => exact absurd (word2.symm.trans bad) (Option.some_ne_none _)
    | 3, _ => exact absurd (word3.symm.trans bad) (Option.some_ne_none _)
  · rfl

end Sys2Proof.Machine.SensorFrames

open Sys2Proof Sys2Proof.Machine Sys2Proof.Machine.SensorFrames

/-- Settles O24: each clause is what a run of rising edges makes of the sampler. -/
theorem sensorFrameIsHeld : Obligations.SensorFrameIsHeld := by
  refine ⟨fun v s p0 a0 p1 a1 => ?good, fun bits s full bad => ?garbled, fun bits s nonempty short => ?short,
    fun before part bits s short nonempty => ?abandoned, fun levels s none => ?between⟩
  case good =>
    rw [exec_sensorFrame, takeEdges_complete _ (length_sensorBits v), frameValues_sensorBits p0 a0 p1 a1]
    rfl
  case garbled =>
    obtain ⟨place, inside, bad⟩ := bad
    have long : 3 ≤ ((bits.drop (16 * place)).take 16).length := by
      simp only [List.length_take, List.length_drop]; omega
    have none := frameValues_none inside (frameWord_none long (by simpa [List.take_take] using bad))
    rw [exec_sensorFrame, takeEdges_complete _ full, none]
    rfl
  case short => rw [exec_sensorFrame, takeEdges_partial _ nonempty short]
  case abandoned =>
    exact congrArg (fun x => Host.Outcome.next { s with sampler := x }) (takeEdges_alone s.sampler before short nonempty)
  case between => rw [exec_sensorFrame, takeEdges_between none]
end

section
/-! PROOF. The sample instant (R31 to R33): what taking a sample leaves as it was, and what the sampler becomes. -/

namespace Sys2Proof.Machine.SampleInstant
open Sys2Proof Sys2Proof.Machine

variable {s t u : State}

/-! ## What a sample leaves as it was -/

/-- From `s` to `t` a channel may have taken a sample: the captures, the channels, the tools, the sister unit, the link and
the waiting messages apart, all is as it was (R27, R44, R65). -/
structure SampleKeeps (s t : State) : Prop where
  station : t.station = s.station
  config : t.config = s.config
  sampler : t.sampler = s.sampler
  store : t.store = s.store
  clock : t.clock = s.clock
  pending : t.pending = s.pending
  inbound : t.port.inbound = s.port.inbound
  counts : ∀ n, (t.counters.get n).count = (s.counters.get n).count ∧ (t.counters.get n).pair = (s.counters.get n).pair ∧
    (t.counters.get n).fault = (s.counters.get n).fault

theorem SampleKeeps.refl (s : State) : SampleKeeps s s := ⟨rfl, rfl, rfl, rfl, rfl, rfl, rfl, fun _ => ⟨rfl, rfl, rfl⟩⟩

theorem SampleKeeps.trans (h : SampleKeeps s t) (k : SampleKeeps t u) : SampleKeeps s u where
  station := k.station.trans h.station
  config := k.config.trans h.config
  sampler := k.sampler.trans h.sampler
  store := k.store.trans h.store
  clock := k.clock.trans h.clock
  pending := k.pending.trans h.pending
  inbound := k.inbound.trans h.inbound
  counts n := by
    obtain ⟨count, pair, fault⟩ := h.counts n
    obtain ⟨count', pair', fault'⟩ := k.counts n
    exact ⟨count'.trans count, pair'.trans pair, fault'.trans fault⟩

/-- A report keeps what a sample keeps. -/
theorem SampleKeeps.of_reportsOnly (h : s.reportsOnly t) : SampleKeeps s t where
  station := h.station
  config := h.config
  sampler := h.sampler
  store := h.store
  clock := h.clock
  pending := h.pending
  inbound := h.inbound
  counts n := by rw [h.counters]; exact ⟨rfl, rfl, rfl⟩

theorem SampleKeeps.setActivity (n : Wheelhead) (a : Activity) (h : SampleKeeps s t) :
    SampleKeeps s (t.setActivity n a) := h.trans ⟨rfl, rfl, rfl, rfl, rfl, rfl, rfl, fun _ => ⟨rfl, rfl, rfl⟩⟩

theorem SampleKeeps.setTeach (n : Wheelhead) (b : Option TeachBuffer) (h : SampleKeeps s t) :
    SampleKeeps s (t.setTeach n b) := h.trans ⟨rfl, rfl, rfl, rfl, rfl, rfl, rfl, fun _ => ⟨rfl, rfl, rfl⟩⟩

theorem SampleKeeps.setTool (slot : Fin 8) (tool : Option Tool) (h : SampleKeeps s t) :
    SampleKeeps s (t.setTool slot tool) := h.trans ⟨rfl, rfl, rfl, rfl, rfl, rfl, rfl, fun _ => ⟨rfl, rfl, rfl⟩⟩

/-- A counter whose captures alone change counts on as it did. -/
theorem SampleKeeps.setCounter {n : Wheelhead} {c : Counter} (count : c.count = (t.counters.get n).count)
    (pair : c.pair = (t.counters.get n).pair) (fault : c.fault = (t.counters.get n).fault) (h : SampleKeeps s t) :
    SampleKeeps s (t.setCounter n c) := by
  refine h.trans ⟨rfl, rfl, rfl, rfl, rfl, rfl, rfl, fun k => ?_⟩
  by_cases same : k = n
  · subst same; simp [count, pair, fault]
  · simp [PerHead.get_set_other _ _ same]

/-! ## The operations of a sample -/

theorem SampleKeeps.breakTool (slot : Fin 8) (h : SampleKeeps s t) : SampleKeeps s (t.breakTool slot) := by
  unfold State.breakTool
  split
  · rename_i tool mounted
    split
    · exact h
    · have broken : SampleKeeps s (t.setBroken slot) := by simp only [State.setBroken, mounted]; exact h.setTool _ _
      have told : (t.setBroken slot).reportsOnly (((t.setBroken slot).sendToolNotice slot).reportState slot tool.state) :=
        ((State.Reports.done.toolNotice _ slot).reportState slot tool.state).only
      exact broken.trans (.of_reportsOnly told)
  · exact h

theorem SampleKeeps.storeContact (n : Wheelhead) (cls : JournalClass) (x : Pos) (h : SampleKeeps s t) :
    SampleKeeps s (t.storeContact n cls x) := by
  unfold State.storeContact
  split
  · split
    · exact h.setTool _ _
    · exact h
  · exact h

theorem SampleKeeps.holdChannel (n : Wheelhead) (j : Journal) (v : HoldVerdict) (h : SampleKeeps s t) :
    SampleKeeps s (t.holdChannel n j v) := by
  unfold State.holdChannel
  dsimp only
  split
  · exact (h.setActivity _ _).breakTool _
  · exact h.setActivity _ _

theorem SampleKeeps.declareContact (n : Wheelhead) (j : Journal) (candidate : Pos) (p : Nat) (h : SampleKeeps s t) :
    SampleKeeps s (t.declareContact n j candidate p) :=
  ((h.setCounter (by rfl) (by rfl) (by rfl)).storeContact _ _ _).setActivity _ _

theorem SampleKeeps.foldTeach (n : Wheelhead) (j : Journal) (travel p : Nat) (h : SampleKeeps s t) :
    SampleKeeps s (t.foldTeach n j travel p) := by
  unfold State.foldTeach
  split
  · exact h.setTeach _ _
  · exact h

theorem SampleKeeps.sampleArmed (n : Wheelhead) (j : Journal) (x : Sample) (h : SampleKeeps s t) :
    SampleKeeps s (t.sampleArmed n j x) := by
  unfold State.sampleArmed
  dsimp only
  split
  · exact h.declareContact _ _ _ _
  · split
    · exact h.holdChannel _ _ _
    · exact h.setActivity _ _

theorem SampleKeeps.sampleCutting (n : Wheelhead) (phase : JournalPhase) (j : Journal) (x : Sample)
    (h : SampleKeeps s t) : SampleKeeps s (t.sampleCutting n phase j x) := by
  unfold State.sampleCutting
  split
  · exact h.setActivity _ _
  · dsimp only
    split
    · exact (h.foldTeach _ _ _ _).holdChannel _ _ _
    · exact (h.foldTeach _ _ _ _).setActivity _ _

theorem SampleKeeps.sampleJournal (n : Wheelhead) (phase : JournalPhase) (j : Journal) (x : Sample)
    (h : SampleKeeps s t) : SampleKeeps s (t.sampleJournal n phase j x) := by
  unfold State.sampleJournal
  cases phase with
  | held => exact h.setActivity _ _
  | armed =>
    dsimp only
    split
    · exact h.holdChannel _ _ _
    · split
      · exact h.holdChannel _ _ _
      · exact h.sampleArmed _ _ _
  | grinding | sparkout =>
    dsimp only
    split
    · exact h.holdChannel _ _ _
    · split
      · exact h.holdChannel _ _ _
      · exact h.sampleCutting _ _ _ _

theorem SampleKeeps.sampleDress (n : Wheelhead) (d : Dress) (x : Sample) (h : SampleKeeps s t) :
    SampleKeeps s (t.sampleDress n d x) := by
  unfold State.sampleDress
  dsimp only
  split
  · exact h.setActivity _ _
  · split
    · exact h.setActivity _ _
    · split
      · exact h.setActivity _ _
      · exact (h.setCounter (by rfl) (by rfl) (by rfl)).setActivity _ _

theorem SampleKeeps.takeSample (n : Wheelhead) (x : Sample) (h : SampleKeeps s t) : SampleKeeps s (t.takeSample n x) := by
  unfold State.takeSample
  split
  · exact h
  · exact h
  · exact h.sampleJournal _ _ _ _
  · exact h.sampleDress _ _ _

theorem SampleKeeps.finish (before : State) (h : SampleKeeps s t) : SampleKeeps s (before.finish t) :=
  h.trans (.of_reportsOnly (State.Reports.finish before .done).only)

/-- A channel that is IDLE or STOPPED takes no sample (R39). -/
theorem takeSample_rest {n : Wheelhead} (x : Sample)
    (rest : (s.channels.get n).state = .idle ∨ (s.channels.get n).state = .stopped) : s.takeSample n x = s := by
  unfold State.takeSample
  cases h : (s.channels.get n).activity with
  | idle => rfl
  | stopped => rfl
  | journal phase j => cases phase <;> simp [Channel.state, h] at rest
  | dressing d => simp [Channel.state, h] at rest

/-! ## The end of the step -/

/-- The end of a step marks the figures that differ from those before and offers the STATUS that is due (R143 to R145). -/
theorem finish_statusOnly (before after : State) : (before.markFigures after).statusOnly (before.finish after) := rfl

/-- A step that leaves the tools and the sister unit as they were moves no advertised figure (R143, R144). -/
theorem markFigures_same {before after : State} (tools : after.tools = before.tools)
    (sister : after.sister = before.sister) : before.markFigures after = after := by
  have free : freePlaces after.figures.capacity before.sister = after.free := by rw [State.free, sister]
  have groups : before.reclaimGroups = after.reclaimGroups := by
    have reclaims : before.reclaims = after.reclaims := by
      funext g
      simp only [State.reclaims, State.headWheels, tools, sister]
    rw [State.reclaimGroups, State.reclaimGroups, reclaims]
  simp [State.markFigures, free, groups]

/-! ## The sampler at an instant -/

/-- The sampler once an instant has passed: the frame is taken or missed, and the positions are kept (R24, R31 to R33). -/
def instantSampler (s : State) : Sampler := s.sampler.instant.keepPositions s.counters

/-- The state at an instant, before the channels take their samples. -/
def atInstant (s : State) : State := { s with clock := s.clock + 1, sampler := instantSampler s }

/-- The sample of an instant that channel n takes (R24, R31). -/
def instantSample (s : State) (n : Wheelhead) : Sample :=
  { p := ((instantSampler s).latest.get n).p, a := ((instantSampler s).latest.get n).a
    position := (s.counters.get n).count
    advanced := decide (1 ≤ s.advance n (s.sampler.previous.get n) (s.counters.get n).count)
    held := decide (s.sampler.pendingFrame = none), lost := (instantSampler s).lost.get n }

theorem instant_taken {x : Sampler} {v : PerHead Reading} (pending : x.pendingFrame = some v) :
    x.instant = { x with latest := v, missing := 0, lost := ⟨false, false⟩, pendingFrame := none } := by
  simp [Sampler.instant, pending]

/-- The run of missing instants stops at 255, past the 8 that set SENSOR_LOST (R32, R33). -/
theorem instant_missed {x : Sampler} (none : x.pendingFrame = none) :
    x.instant = { x with
      missing := min (x.missing + 1) 255, lost := if 8 ≤ x.missing + 1 then ⟨true, true⟩ else x.lost } := by
  have limit : 8 ≤ min (x.missing + 1) 255 ↔ 8 ≤ x.missing + 1 := by omega
  simp [Sampler.instant, none, limit]

@[simp] theorem instant_partialFrame (x : Sampler) : x.instant.partialFrame = x.partialFrame := by
  unfold Sampler.instant
  split <;> rfl

@[simp] theorem instant_pendingFrame (x : Sampler) : x.instant.pendingFrame = none := by
  unfold Sampler.instant
  split
  · rfl
  · assumption

@[simp] theorem instant_previous (x : Sampler) : x.instant.previous = x.previous := by
  unfold Sampler.instant
  split <;> rfl

/-- The sample delivered at an instant is the one of the sampler as the instant leaves it. -/
theorem sampleOf_instant (s : State) (n : Wheelhead) :
    State.sampleOf { s with clock := s.clock + 1, sampler := s.sampler.instant } n s.sampler.pendingFrame.isNone =
      instantSample s n := by
  have held : s.sampler.pendingFrame.isNone = decide (s.sampler.pendingFrame = none) := by
    cases s.sampler.pendingFrame <;> rfl
  rw [instantSample, ← held, ← instant_previous s.sampler]
  rfl

/-- SAMPLE_INSTANT: channel 0 takes its sample of the instant, then channel 1, and the step ends (log entry 5). -/
theorem exec_sampleInstant (s : State) : exec .sampleInstant s =
    .next (s.finish (((atInstant s).takeSample .w0 (instantSample s .w0)).takeSample .w1 (instantSample s .w1))) := by
  rw [← sampleOf_instant, ← sampleOf_instant]
  rfl

end Sys2Proof.Machine.SampleInstant

open Sys2Proof Sys2Proof.Machine Sys2Proof.Machine.SampleInstant

/-- Settles O25: the sampler and the counts by what a sample and the end of a step keep, the rest by the order in which the
instant is worked. -/
theorem sampleInstantTakesFrame : Obligations.SampleInstantTakesFrame := by
  intro s
  have keeps := (((SampleKeeps.refl (atInstant s)).takeSample .w0 (instantSample s .w0)).takeSample .w1
    (instantSample s .w1)).finish s
  refine ⟨_, exec_sampleInstant s, keeps.clock, ?previous, ?partialFrame, ?pendingFrame, ?taken, ?missed, keeps.counts,
    keeps.station, keeps.config, keeps.store, keeps.inbound, ?rest, ?samples⟩ <;> rw [keeps.sampler]
  case previous => rfl
  case partialFrame => exact instant_partialFrame s.sampler
  case pendingFrame => exact instant_pendingFrame s.sampler
  case taken =>
    intro v pending
    simp [atInstant, instantSampler, Sampler.keepPositions, instant_taken pending]
  case missed =>
    intro none
    simp [atInstant, instantSampler, Sampler.keepPositions, instant_missed none]
  case rest =>
    intro rest
    rw [takeSample_rest (s := atInstant s) _ (rest .w0), takeSample_rest (s := atInstant s) _ (rest .w1)]
    have ended := finish_statusOnly s (atInstant s)
    rwa [markFigures_same (by rfl) (by rfl)] at ended
  case samples =>
    intro sample took
    have takes (u : State) (n : Wheelhead) : took u n = u.takeSample n (instantSample s n) := by
      simp only [took]
      unfold State.takeSample
      cases (u.channels.get n).activity <;> rfl
    rw [takes, takes]
    exact finish_statusOnly s _
end

section
/-! PROOF. The queue of waiting commands (log entry 10): no operation of the part touches it, said once for each. -/

namespace Sys2Proof.Machine.WaitingCommands
open Sys2Proof Sys2Proof.Machine Sys2Proof.Machine.SampleInstant

variable (s : State)

/-- No chain of reports touches the waiting commands. -/
theorem pending_of_reports {R : Sister → Sister → Prop} {s t : State} (h : s.Reports R t) : t.pending = s.pending :=
  h.only.pending

/-! ## Messages and the end of a step -/

@[simp] theorem pending_send (m : OutMsg) : (s.send m).pending = s.pending := rfl
@[simp] theorem pending_sendToolNotice (slot : Fin 8) : (s.sendToolNotice slot).pending = s.pending := rfl
@[simp] theorem pending_sendSwap (n : SwapNotice) : (s.sendSwap n).pending = s.pending := rfl
@[simp] theorem pending_sendLinkNotice (n : LinkNotice) : (s.sendLinkNotice n).pending = s.pending := rfl
@[simp] theorem pending_sendStoreNotice (n : StoreNotice) : (s.sendStoreNotice n).pending = s.pending := rfl
@[simp] theorem pending_accept (code : Byte) (c : Contents) : (s.accept code c).pending = s.pending := rfl
@[simp] theorem pending_refuse (code : Byte) (r : Reason) : (s.refuse code r).pending = s.pending := rfl
@[simp] theorem pending_offerStatus : s.offerStatus.pending = s.pending := rfl

@[simp] theorem pending_finish (before : State) : (before.finish s).pending = s.pending :=
  pending_of_reports (.finish before .done)

/-! ## The sister unit -/

@[simp] theorem pending_departMarked (sel : OpEntry → Bool) : (s.departMarked sel).pending = s.pending :=
  pending_of_reports (.departMarked sel .done)

@[simp] theorem pending_takeTrigger (slot : Fin 8) (g : Option Nat) (seat : Seat) (kind : TriggerKind) :
    (s.takeTrigger slot g seat kind).pending = s.pending := pending_of_reports (.takeTrigger slot g seat kind .done)

@[simp] theorem pending_reportMount (slot : Fin 8) (tool : Tool) : (s.reportMount slot tool).pending = s.pending :=
  pending_of_reports (.reportMount slot tool .done)

@[simp] theorem pending_reportUnblocked (slot : Fin 8) : (s.reportUnblocked slot).pending = s.pending :=
  pending_of_reports (.reportUnblocked slot .done)

@[simp] theorem pending_reportDiscarded (body : FrameBody) : (s.reportDiscarded body).pending = s.pending :=
  pending_of_reports (.reportDiscarded body .done)

@[simp] theorem pending_reportSent (body : FrameBody) : (s.reportSent body).pending = s.pending :=
  pending_of_reports (.reportSent body .done)

@[simp] theorem pending_expireWindow (h : HandOff) : (s.expireWindow h).pending = s.pending :=
  pending_of_reports (.expireWindow h .done)

@[simp] theorem pending_endRound (h : HandOff) : (s.endRound h).pending = s.pending :=
  pending_of_reports (.endRound h .done)

@[simp] theorem pending_releaseReservation (slot : Fin 8) : (s.releaseReservation slot).pending = s.pending :=
  pending_of_reports (.releaseReservation slot .done)

@[simp] theorem pending_takeHome (orphan : Bool) (es : List LentEntry) :
    (State.takeHome orphan es s).1.pending = s.pending := pending_of_reports (.takeHome orphan es .done)

@[simp] theorem pending_deliver (station : Nat) (body : FrameBody) : (s.deliver station body).pending = s.pending :=
  pending_of_reports (.deliver station body .done)

/-- A request that is answered by its checks leaves the waiting commands when its effect does. -/
theorem pending_answer {α : Type} (code : Byte) (checked : Except Reason α) (effect : α → State)
    (kept : ∀ x, (effect x).pending = s.pending) : (s.answer code checked effect).pending = s.pending := by
  cases checked with
  | error reason => rfl
  | ok x => exact kept x

/-! ## The envelope store and the flash port -/

@[simp] theorem pending_startFetch (r : FetchRequest) (rest : List FetchRequest) :
    (s.startFetch r rest).pending = s.pending := by
  unfold State.startFetch
  split <;> rfl

@[simp] theorem pending_startWrite (slot : Fin 24) (rest : List (Fin 24)) :
    (s.startWrite slot rest).pending = s.pending := by
  unfold State.startWrite
  split <;> rfl

@[simp] theorem pending_arbitrate : s.arbitrate.pending = s.pending := by
  unfold State.arbitrate
  split
  · split <;> simp
  · rfl

@[simp] theorem pending_raisePrefetch (key : Nat) : (s.raisePrefetch key).pending = s.pending := by
  simp [State.raisePrefetch]

@[simp] theorem pending_prefetchFirst (variant : Nat) (n : Wheelhead) (entries : List OpEntry) :
    (s.prefetchFirst variant n entries).pending = s.pending := by
  unfold State.prefetchFirst
  split <;> simp

@[simp] theorem pending_endRead (slot : Fin 24) (key reads : Nat) (cutShort : Bool) (bytes : List Byte) :
    (s.endRead slot key reads cutShort bytes).pending = s.pending := by
  unfold State.endRead
  dsimp only
  split
  · simp
  · simp
  · split
    · simp
    · split
      · rfl
      · split <;> simp

@[simp] theorem pending_endWrite (slot : Fin 24) (discard good : Bool) :
    (s.endWrite slot discard good).pending = s.pending := by
  unfold State.endWrite
  dsimp only
  split
  · simp
  · split
    · split
      · simp
      · split <;> simp
    · simp

@[simp] theorem pending_placeEnvelope (key : Nat) (env : Envelope) : (s.placeEnvelope key env).pending = s.pending := by
  unfold State.placeEnvelope
  split <;> simp

/-! ## The tool table -/

@[simp] theorem pending_chargeTool (slot : Fin 8) (c : Nat) : (s.chargeTool slot c).pending = s.pending := by
  unfold State.chargeTool
  split <;> rfl

@[simp] theorem pending_setBroken (slot : Fin 8) : (s.setBroken slot).pending = s.pending := by
  unfold State.setBroken
  split <;> rfl

@[simp] theorem pending_clearContacts (n : Wheelhead) : (s.clearContacts n).pending = s.pending := by
  unfold State.clearContacts
  split
  · split <;> rfl
  · rfl

@[simp] theorem pending_noticeCharge (slot : Fin 8) (before : Option Tool) :
    (s.noticeCharge slot before).pending = s.pending := by
  unfold State.noticeCharge
  split
  · split <;> rfl
  · rfl

@[simp] theorem pending_reportCharge (slot : Fin 8) (before : Option Tool) :
    (s.reportCharge slot before).pending = s.pending := by
  cases before with
  | none => rfl
  | some tool => exact pending_of_reports (State.Reports.done.reportState slot tool.state)

@[simp] theorem pending_raiseDressDue (n : Wheelhead) (slot : Fin 8) (t : Tool) (q : Nat) :
    (s.raiseDressDue n slot t q).pending = s.pending := by
  unfold State.raiseDressDue
  dsimp only
  split <;> simp

@[simp] theorem pending_updateDressRun (n : Wheelhead) (slot : Fin 8) (q : Nat) :
    (s.updateDressRun n slot q).pending = s.pending := by
  unfold State.updateDressRun
  split
  · split
    · rfl
    · dsimp only
      split <;> simp
  · rfl

@[simp] theorem pending_afterCharge (n : Wheelhead) (slot : Fin 8) (before : Option Tool) (q : Nat) :
    (s.afterCharge n slot before q).pending = s.pending := by simp [State.afterCharge]

/-! ## Journals and dresses -/

@[simp] theorem pending_arm (n : Wheelhead) (e : OpEntry) : (s.arm n e).pending = s.pending := by
  unfold State.arm
  dsimp only
  split <;> simp

@[simp] theorem pending_beginJournal (n : Wheelhead) (e : OpEntry) : (s.beginJournal n e).pending = s.pending := by
  simp [State.beginJournal]

@[simp] theorem pending_closeTeach (n : Wheelhead) (j : Journal) (counted : Bool) :
    (s.closeTeach n j counted).pending = s.pending := by
  unfold State.closeTeach
  split <;> rfl

@[simp] theorem pending_completeTeach (n : Wheelhead) : (s.completeTeach n).pending = s.pending := by
  unfold State.completeTeach
  split
  · split <;> simp
  · rfl

@[simp] theorem pending_closeJournal (n : Wheelhead) (j : Journal) (overlong : Bool) (after : Activity) :
    (s.closeJournal n j overlong after).pending = s.pending := by
  unfold State.closeJournal
  dsimp only
  split <;> simp

@[simp] theorem pending_dressWheel (n : Wheelhead) (slot : Fin 8) (depth : Nat) (cleared : Bool) :
    (s.dressWheel n slot depth cleared).pending = s.pending := by
  unfold State.dressWheel
  split <;> rfl

@[simp] theorem pending_noticeDressed (slot : Fin 8) (before : Option Tool) :
    (s.noticeDressed slot before).pending = s.pending := by
  unfold State.noticeDressed
  split <;> simp

@[simp] theorem pending_reportDress (d : Dress) (wheel roll : Option Tool) :
    (s.reportDress d wheel roll).pending = s.pending := by
  unfold State.reportDress
  dsimp only
  split <;> simp

@[simp] theorem pending_closeDress (n : Wheelhead) (d : Dress) (reported : Option Nat) :
    (s.closeDress n d reported).pending = s.pending := by
  unfold State.closeDress
  dsimp only
  split <;> simp

@[simp] theorem pending_holdChannel (n : Wheelhead) (j : Journal) (v : HoldVerdict) :
    (s.holdChannel n j v).pending = s.pending := ((SampleKeeps.refl s).holdChannel n j v).pending

@[simp] theorem pending_faultChannel (n : Wheelhead) : (s.faultChannel n).pending = s.pending := by
  unfold State.faultChannel
  split <;> simp

@[simp] theorem pending_positionFault (n : Wheelhead) (pair : PhasePair) :
    (s.positionFault n pair).pending = s.pending := by simp [State.positionFault]

@[simp] theorem pending_takeSample (n : Wheelhead) (x : Sample) : (s.takeSample n x).pending = s.pending :=
  ((SampleKeeps.refl s).takeSample n x).pending

/-! ## The handling of each request -/

theorem pending_handleConfigure (figures : List (Byte × BitVec 32)) :
    (s.handleConfigure figures).pending = s.pending := pending_answer _ _ _ _ fun _ => rfl

theorem pending_handleStart : s.handleStart.pending = s.pending := by
  unfold State.handleStart
  split <;> rfl

theorem pending_handleRestart : s.handleRestart.pending = s.pending := by
  unfold State.handleRestart
  split
  · rfl
  · have notices (entries : List OpEntry) (t : State) :
        (entries.foldl (fun t e => t.sendSwap (s.swapFor .opsBack e.lender [e])) t).pending = t.pending :=
      pending_of_reports (.foldl (fun _ _ => State.Reports.done.sendSwap _) entries .done)
    rw [notices]
    rfl

theorem pending_handleMount (slot kind position : Byte) (toolId : BitVec 32) (group : Byte)
    (fullLife consumedLife : BitVec 32) :
    (s.handleMount slot kind position toolId group fullLife consumedLife).pending = s.pending :=
  pending_answer _ _ _ _ fun _ => by simp [State.mountTool]

theorem pending_handleDismount (slot : Byte) : (s.handleDismount slot).pending = s.pending := by
  have cancelTeach (u : State) (t : Tool) : (u.cancelTeach t).pending = u.pending := by
    unfold State.cancelTeach
    split <;> rfl
  exact pending_answer _ _ _ _ fun _ => by simp [State.dismountTool, cancelTeach]

theorem pending_handleAssign (variant journal cls slot place beforeVariant beforeJournal : Byte) :
    (s.handleAssign variant journal cls slot place beforeVariant beforeJournal).pending = s.pending :=
  pending_answer _ _ _ _ fun _ => rfl

theorem pending_handleUnassign (variant journal : Byte) : (s.handleUnassign variant journal).pending = s.pending :=
  pending_answer _ _ _ _ fun _ => rfl

theorem pending_handlePartBegin (variant : Byte) : (s.handlePartBegin variant).pending = s.pending :=
  pending_answer _ _ _ _ fun _ => by simp [State.beginPart]

theorem pending_handlePartEnd : s.handlePartEnd.pending = s.pending := by
  refine pending_answer _ _ _ _ fun _ => ?_
  unfold State.endPart
  dsimp only
  split <;> simp

theorem pending_handleJournalBegin (variant journal : Byte) :
    (s.handleJournalBegin variant journal).pending = s.pending := by
  refine pending_answer _ _ _ _ fun op => ?_
  split
  · rfl
  · split
    · split <;> rfl
    · split <;> simp

theorem pending_handleJournalEnd (wheelhead : Byte) : (s.handleJournalEnd wheelhead).pending = s.pending := by
  unfold State.handleJournalEnd
  split
  · rfl
  · split
    · rfl
    · split <;> simp

theorem pending_handleDressBegin (wheelhead : Byte) : (s.handleDressBegin wheelhead).pending = s.pending :=
  pending_answer _ _ _ _ fun _ => rfl

theorem pending_handleDressEnd (wheelhead : Byte) (depth : BitVec 16) :
    (s.handleDressEnd wheelhead depth).pending = s.pending := by
  unfold State.handleDressEnd
  split
  · rfl
  · split
    · rfl
    · split <;> simp

theorem pending_handleHoldRelease (wheelhead : Byte) : (s.handleHoldRelease wheelhead).pending = s.pending := by
  unfold State.handleHoldRelease
  split
  · rfl
  · split
    · rfl
    · split <;> rfl

theorem pending_handleTeach (variant journal wheelhead m : Byte) (step : BitVec 16) :
    (s.handleTeach variant journal wheelhead m step).pending = s.pending := pending_answer _ _ _ _ fun _ => rfl

theorem pending_handleQueryTool (slot : Byte) : (s.handleQueryTool slot).pending = s.pending := by
  unfold State.handleQueryTool
  split <;> rfl

/-- No request touches the waiting commands. -/
theorem pending_handleRequest (i : Instr) : (s.handleRequest i).pending = s.pending := by
  cases i with
  | configure figures => exact pending_handleConfigure s figures
  | start => exact (pending_finish _ s).trans (pending_handleStart s)
  | restart => exact pending_handleRestart s
  | mount => exact (pending_finish _ s).trans (pending_handleMount s _ _ _ _ _ _ _)
  | dismount => exact (pending_finish _ s).trans (pending_handleDismount s _)
  | assign => exact (pending_finish _ s).trans (pending_handleAssign s _ _ _ _ _ _ _)
  | unassign => exact (pending_finish _ s).trans (pending_handleUnassign s _ _)
  | partBegin => exact pending_handlePartBegin s _
  | partEnd => exact (pending_finish _ s).trans (pending_handlePartEnd s)
  | journalBegin => exact pending_handleJournalBegin s _ _
  | journalEnd => exact (pending_finish _ s).trans (pending_handleJournalEnd s _)
  | dressBegin => exact pending_handleDressBegin s _
  | dressEnd => exact (pending_finish _ s).trans (pending_handleDressEnd s _ _)
  | holdRelease => exact pending_handleHoldRelease s _
  | teach => exact pending_handleTeach s _ _ _ _ _
  | queryTool => exact pending_handleQueryTool s _
  | _ => rfl

/-! ## Taking messages -/

theorem pending_serve : s.serve.pending = s.pending :=
  State.takeMessages_keeps (P := fun t => t.pending = s.pending)
    (fun t _ kept _ _ => (pending_handleRequest t.popInbound _).trans kept) _ s rfl

theorem pending_arrive (message : List Byte) : (s.arrive message).pending = s.pending := by
  refine (pending_serve _).trans ?_
  unfold State.offerInbound
  split <;> rfl

@[simp] theorem pending_messageSent : s.messageSent.pending = s.pending := pending_serve _

theorem pending_endSending (clocks : Nat) : (s.endSending clocks).pending = s.pending := by
  unfold State.endSending
  split
  · split <;> simp
  · rfl

/-! ## The link -/

theorem pending_updateLine (line : LineId) (l : Line) (good otherGood otherUp : Bool) :
    (s.updateLine line l good otherGood otherUp).pending = s.pending := by
  unfold State.updateLine
  dsimp only
  split
  · rfl
  · split <;> rfl

theorem pending_acceptCopy (c : GoodCopy) : (s.acceptCopy c).pending = s.pending := by
  unfold State.acceptCopy
  split
  · unfold State.markDuplicate
    dsimp only
    split <;> rfl
  · split
    · simp [State.restartSilence]
    · rfl

theorem pending_takeFrame (a b : LineCopy) : (s.takeFrame a b).pending = s.pending := by
  unfold State.takeFrame
  split
  · rfl
  · split
    · rfl
    · dsimp only
      split <;> simp [pending_acceptCopy, State.updateLines, pending_updateLine]

theorem pending_giveUp (body : FrameBody) : (s.giveUp body).pending = s.pending := by
  unfold State.giveUp
  split
  · rfl
  · simp

theorem pending_removePeer (p : Peer) : (s.removePeer p).pending = s.pending := by
  unfold State.removePeer
  dsimp only
  split
  · rfl
  · simp

/-! ## The commands -/

/-- The block goes on from an outcome, and the waiting commands stand as in `s` (log entry 10). -/
def goesOn (o : Host.Outcome State Fault Refusal) : Prop := ∃ t, o = .next t ∧ t.pending = s.pending

variable {s}

theorem goesOn_next {t : State} (kept : t.pending = s.pending) : goesOn s (.next t) := ⟨t, rfl, kept⟩

theorem goesOn_arrive (message : List Byte) : goesOn s (.next (s.arrive message)) := goesOn_next (pending_arrive s message)

theorem goesOn_takeFrame (a b : LineCopy) : goesOn s (.next (s.takeFrame a b)) := goesOn_next (pending_takeFrame s a b)

variable (s)

theorem goesOn_unknownRequestCode (message : List Byte) : goesOn s (execUnknownRequestCode message s) := by
  unfold execUnknownRequestCode
  split
  · exact goesOn_next rfl
  · exact goesOn_arrive message

theorem goesOn_transactionStart : goesOn s (execTransactionStart s) := by
  unfold execTransactionStart
  split
  · split <;> exact goesOn_next rfl
  · exact goesOn_next rfl

theorem goesOn_transactionEnd (bits : List Bool) : goesOn s (execTransactionEnd bits s) := by
  unfold execTransactionEnd
  split
  · exact goesOn_next rfl
  · exact goesOn_next rfl
  · refine goesOn_next ?_
    split
    · exact (pending_arrive _ _).trans (pending_endSending s _)
    · exact pending_endSending s _

theorem goesOn_outboundMessageSent : goesOn s (execOutboundMessageSent s) := by
  unfold execOutboundMessageSent
  split
  · exact goesOn_next (pending_messageSent s)
  · exact goesOn_next rfl

theorem goesOn_quadratureTransition (n : Wheelhead) (pair : PhasePair) :
    goesOn s (execQuadratureTransition n pair s) := by
  unfold execQuadratureTransition
  dsimp only
  split
  · exact goesOn_next rfl
  · split
    · exact goesOn_next rfl
    · exact goesOn_next (pending_positionFault s n pair)

theorem goesOn_sampleInstant : goesOn s (execSampleInstant s) := goesOn_next (by simp)

theorem goesOn_overlongExpiry (n : Wheelhead) : goesOn s (execOverlongExpiry n s) := by
  unfold execOverlongExpiry
  split
  · exact goesOn_next (by simp)
  · exact goesOn_next rfl

theorem goesOn_dressOverlongExpiry (n : Wheelhead) : goesOn s (execDressOverlongExpiry n s) := by
  unfold execDressOverlongExpiry
  split
  · exact goesOn_next (by simp)
  · exact goesOn_next rfl

theorem goesOn_fetchReadEnd (bytes : List Byte) : goesOn s (execFetchReadEnd bytes s) := by
  unfold execFetchReadEnd
  split
  · exact goesOn_next (pending_endRead s _ _ _ _ _)
  · exact goesOn_next rfl

theorem goesOn_writeEnd (readBack : List Byte) : goesOn s (execWriteEnd readBack s) := by
  unfold execWriteEnd
  split
  · exact goesOn_next (pending_endWrite s _ _ _)
  · exact goesOn_next rfl

theorem goesOn_writeStatusTimeout : goesOn s (execWriteStatusTimeout s) := by
  unfold execWriteStatusTimeout
  split
  · exact goesOn_next (pending_endWrite s _ _ _)
  · exact goesOn_next rfl

theorem goesOn_frameBegin (wait : Nat) : goesOn s (execFrameBegin wait s) := by
  unfold execFrameBegin
  split
  · exact goesOn_next rfl
  · dsimp only
    split <;> exact goesOn_next rfl

theorem goesOn_sendingComplete : goesOn s (execSendingComplete s) := by
  unfold execSendingComplete
  split
  · exact goesOn_next rfl
  · refine goesOn_next ((pending_finish _ _).trans ?_)
    split
    · rfl
    · simp

theorem goesOn_collision (line : LineId) : goesOn s (execCollision line s) := by
  unfold execCollision
  split
  · exact goesOn_next rfl
  · split
    · exact goesOn_next rfl
    · split
      · exact goesOn_next (by simp)
      · exact goesOn_next ((pending_finish _ _).trans (pending_giveUp _ _))

theorem goesOn_lineEdge (line : LineId) (edge : Edge) : goesOn s (execLineEdge line edge s) := by
  unfold execLineEdge
  split <;> exact goesOn_next rfl

theorem goesOn_silenceTimerExpiry : goesOn s (execSilenceTimerExpiry s) := by
  unfold execSilenceTimerExpiry
  split <;> exact goesOn_next rfl

theorem goesOn_peerStale (station : Nat) : goesOn s (execPeerStale station s) := by
  unfold execPeerStale
  split
  · refine goesOn_next ?_
    split <;> rfl
  · exact goesOn_next rfl

theorem goesOn_peerRemoved (station : Nat) : goesOn s (execPeerRemoved station s) := by
  unfold execPeerRemoved
  split
  · exact goesOn_next ((pending_finish _ _).trans (pending_removePeer s _))
  · exact goesOn_next rfl

theorem goesOn_statusPeriodExpiry : goesOn s (execStatusPeriodExpiry s) := by
  unfold execStatusPeriodExpiry
  split
  · split <;> exact goesOn_next rfl
  · exact goesOn_next rfl

theorem goesOn_statusChangeOffer : goesOn s (execStatusChangeOffer s) := by
  unfold execStatusChangeOffer
  split
  · split <;> exact goesOn_next rfl
  · exact goesOn_next rfl

theorem goesOn_windowExpiry (group : Nat) : goesOn s (execWindowExpiry group s) := by
  unfold execWindowExpiry
  split
  · split
    · exact goesOn_next (by simp)
    · exact goesOn_next rfl
  · exact goesOn_next rfl

theorem goesOn_awardTimerExpiry (group : Nat) : goesOn s (execAwardTimerExpiry group s) := by
  unfold execAwardTimerExpiry
  split
  · split
    · exact goesOn_next (by simp)
    · exact goesOn_next rfl
  · exact goesOn_next rfl

theorem goesOn_reservationExpiry (slot : Fin 8) : goesOn s (execReservationExpiry slot s) := by
  unfold execReservationExpiry
  split
  · exact goesOn_next (by simp)
  · exact goesOn_next rfl

end Sys2Proof.Machine.WaitingCommands

open Sys2Proof Sys2Proof.Machine Sys2Proof.Machine.WaitingCommands

/-- Settles O4, command by command: a request is the arrival of its message, a frame row the taking of a frame, and every other
command has its own lemma above. -/
theorem everyCommandAnswersNext : Obligations.EveryCommandAnswersNext := by
  intro i s
  cases i with
  | unknownRequestCode => exact goesOn_unknownRequestCode s _
  | transactionStart => exact goesOn_transactionStart s
  | transactionEnd => exact goesOn_transactionEnd s _
  | outboundMessageSent => exact goesOn_outboundMessageSent s
  | fullReset => exact goesOn_next rfl
  | quadratureTransition => exact goesOn_quadratureTransition s _ _
  | sensorFrame => exact goesOn_next rfl
  | sampleInstant => exact goesOn_sampleInstant s
  | overlongExpiry => exact goesOn_overlongExpiry s _
  | dressOverlongExpiry => exact goesOn_dressOverlongExpiry s _
  | fetchReadEnd => exact goesOn_fetchReadEnd s _
  | writeEnd => exact goesOn_writeEnd s _
  | writeStatusTimeout => exact goesOn_writeStatusTimeout s
  | frameBegin => exact goesOn_frameBegin s _
  | sendingComplete => exact goesOn_sendingComplete s
  | collision => exact goesOn_collision s _
  | statusReceived | callReceived | offerReceived | awardReceived | takenReceived | declineReceived | releaseReceived
  | frameDropped | duplicateStation => exact goesOn_takeFrame _ _
  | silenceTimerExpiry => exact goesOn_silenceTimerExpiry s
  | peerStale => exact goesOn_peerStale s _
  | peerRemoved => exact goesOn_peerRemoved s _
  | statusPeriodExpiry => exact goesOn_statusPeriodExpiry s
  | statusChangeOffer => exact goesOn_statusChangeOffer s
  | windowExpiry => exact goesOn_windowExpiry s _
  | awardTimerExpiry => exact goesOn_awardTimerExpiry s _
  | reservationExpiry => exact goesOn_reservationExpiry s _
  | lineEdge => exact goesOn_lineEdge s _ _
  | configure | start | restart | mount | dismount | assign | unassign | partBegin | partEnd | journalBegin | journalEnd
  | dressBegin | dressEnd | holdRelease | teach | queryTool | queryStation => exact goesOn_arrive _
end

section
/-! PROOF. A request that is taken as it comes, and the queue of notices behind the REPLY of a RESTART (R124, R179, R183). -/

namespace Sys2Proof.Machine.Restarting
open Sys2Proof Sys2Proof.Machine

/-- A request that is taken now and whose message reads as itself is handled with its message gone (R175). -/
theorem next_arrive_taken {s : State} {i : Instr} (taken : s.takesNow i = true)
    (reads : decodeRequest (requestBytes i) = some i) :
    (.next (s.arrive (requestBytes i)) : Host.Outcome State Fault Refusal) = .next (s.taking.handleRequest i) := by
  rw [State.arrive_taken taken, State.handleMessage_decoded reads]

theorem exec_restart_taken {s : State} (taken : s.takesNow .restart = true) :
    exec .restart s = .next s.taking.handleRestart := next_arrive_taken taken rfl

/-! ## Notices behind a REPLY -/

/-- A notice joins the back of an outbound queue with room (R183). -/
theorem place_notice_room {p : Port} {m : OutMsg} (notice : m.isNotice = true) (room : p.outbound.length < 16) :
    p.place m = { p with outbound := p.outbound ++ [m] } := by
  have asItIs : p.roomForRecord m = p := by simp [Port.roomForRecord, OutMsg.isRecord_of_isNotice notice]
  simp [Port.place, asItIs, Port.roomForMessage, room]

/-- A notice that finds a full queue without records displaces the oldest notice that is not being sent (R183). -/
theorem place_notice_full {p : Port} {m : OutMsg} (notice : m.isNotice = true) (idle : p.sending = false)
    (full : 16 ≤ p.outbound.length) (noRecord : p.outbound.any OutMsg.isRecord = false)
    (waits : p.outbound.any OutMsg.isNotice = true) :
    p.place m = { p with outbound := p.outbound.eraseP OutMsg.isNotice ++ [m], noticesLost := true } := by
  have asItIs : p.roomForRecord m = p := by simp [Port.roomForRecord, OutMsg.isRecord_of_isNotice notice]
  have all : p.waiting = p.outbound := by simp [Port.waiting, idle]
  have kept : p.dropRecord = none := by simp [Port.dropRecord, all, noRecord]
  have dropped : p.dropNotice = some { p.removeWaiting OutMsg.isNotice with noticesLost := true } := by
    rw [Port.dropNotice, all, if_pos waits]
  simp [Port.place, asItIs, Port.roomForMessage, Nat.not_lt.mpr full, kept, dropped, Port.removeWaiting, Port.beingSent,
    all, idle]

/-- The port whose outbound queue is a REPLY with the last 15 of some notices behind it. -/
def replyAndLast (p : Port) (reply : OutMsg) (notices : List OutMsg) : Port :=
  { p with
    outbound := reply :: notices.drop (notices.length - 15), noticesLost := decide (15 < notices.length) }

/-- One more notice joins the last 15, of which the oldest goes when there are more (R183). -/
theorem place_replyAndLast {p : Port} {reply m : OutMsg} {notices : List OutMsg} (idle : p.sending = false)
    (isReply : reply.isReply = true) (areNotices : ∀ x ∈ notices, x.isNotice = true) (notice : m.isNotice = true) :
    (replyAndLast p reply notices).place m = replyAndLast p reply (notices ++ [m]) := by
  have replyNotRecord : reply.isRecord = false := by cases reply <;> simp_all [OutMsg.isReply, OutMsg.isRecord]
  have replyNotNotice : reply.isNotice = false := by simp [OutMsg.isNotice, isReply]
  by_cases few : notices.length < 15
  · rw [place_notice_room notice (by simp [replyAndLast]; omega)]
    have none : notices.length - 15 = 0 := by omega
    have still : notices.length + 1 - 15 = 0 := by omega
    have kept : ¬ 15 < notices.length := by omega
    have kept' : ¬ 15 < notices.length + 1 := by omega
    simp [replyAndLast, none, still, kept, kept']
  · have length : (notices.drop (notices.length - 15)).length = 15 := by simp; omega
    obtain ⟨oldest, rest, last⟩ := List.exists_cons_of_length_pos (Nat.lt_of_lt_of_eq (by decide : 0 < 15) length.symm)
    have lastNotices : ∀ x ∈ oldest :: rest, x.isNotice = true := fun x mem =>
      areNotices x (List.mem_of_mem_drop (last ▸ mem))
    have noRecord : ∀ x ∈ oldest :: rest, x.isRecord = false := fun x mem =>
      OutMsg.isRecord_of_isNotice (lastNotices x mem)
    have oldestNotice : oldest.isNotice = true := lastNotices oldest List.mem_cons_self
    have outbound : (replyAndLast p reply notices).outbound = reply :: oldest :: rest := congrArg (reply :: ·) last
    have full : 16 ≤ (replyAndLast p reply notices).outbound.length := by
      rw [outbound, ← last, List.length_cons]; omega
    have after : (notices ++ [m]).drop (notices.length - 14) = rest ++ [m] := by
      rw [List.drop_append_of_le_length (by omega), show notices.length - 14 = notices.length - 15 + 1 by omega,
        List.drop_add_one_eq_tail_drop, last]
      rfl
    have lost : 15 < notices.length + 1 := by omega
    rw [place_notice_full (p := replyAndLast p reply notices) notice idle full
      (by rw [outbound]; simpa [replyNotRecord] using noRecord) (by rw [outbound]; simp [oldestNotice]), outbound]
    simp [replyAndLast, replyNotNotice, oldestNotice, after, lost]

theorem foldl_place_notices {p : Port} {reply : OutMsg} (idle : p.sending = false) (isReply : reply.isReply = true)
    (more : List OutMsg) {placed : List OutMsg} (areNotices : ∀ x ∈ placed ++ more, x.isNotice = true) :
    more.foldl Port.place (replyAndLast p reply placed) = replyAndLast p reply (placed ++ more) := by
  induction more generalizing placed with
  | nil => rw [List.append_nil]; rfl
  | cons m more ih =>
    have first : ∀ x ∈ placed, x.isNotice = true := fun x mem => areNotices x (List.mem_append_left _ mem)
    have next : m.isNotice = true := areNotices m (List.mem_append_right _ List.mem_cons_self)
    have split : placed ++ m :: more = placed ++ [m] ++ more := List.append_cons _ _ _
    rw [List.foldl_cons, place_replyAndLast idle isReply first next, split]
    exact ih (split ▸ areNotices)

/-- Sending notices one by one places them one by one. -/
theorem foldl_sendSwap (notice : OpEntry → SwapNotice) (entries : List OpEntry) (s : State) :
    entries.foldl (fun t e => t.sendSwap (notice e)) s =
      s.setPort ((entries.map fun e => OutMsg.swapNotice (notice e)).foldl Port.place s.port) := by
  induction entries generalizing s with
  | nil => rfl
  | cons e entries ih => exact ih _

/-! ## RESTART -/

/-- The OPS_BACK notices of the marked entries, in list order (R124; log entry 15). -/
def backNotices (s : State) : List OutMsg :=
  (s.sister.opList.filter fun e => e.mark.isSome).map fun e => OutMsg.swapNotice
    { kind := .opsBack, group := s.groupOfSlot e.slot, slot := some e.slot, slot2 := none, peer := e.lender
      moved := [e.op], dropped := [] }

/-- A RESTART outside UNCONFIGURED leaves each block at its RESTART value, with its REPLY first and the last 15 of its notices
behind (R124, R179). -/
theorem handleRestart_configured {s : State} (configured : s.station ≠ .unconfigured) :
    s.handleRestart =
      s.restart.setPort (replyAndLast s.port.restart (.reply 0x03 (.accepted .plain)) (backNotices s)) := by
  have replied : s.restart.accept 0x03 =
      s.restart.setPort { s.port.restart with outbound := [.reply 0x03 (.accepted .plain)] } :=
    State.send_reply (s := s.restart) _ _ (by simp [State.restart, Port.restart])
  have areNotices : ∀ x ∈ backNotices s, x.isNotice = true := by
    intro x mem
    obtain ⟨e, -, rfl⟩ := List.mem_map.mp mem
    rfl
  have placed := foldl_place_notices (p := s.port.restart) (reply := .reply 0x03 (.accepted .plain)) rfl rfl
    (backNotices s) (placed := []) areNotices
  rw [State.handleRestart, if_neg configured, foldl_sendSwap, replied, ← List.nil_append (backNotices s), ← placed]
  rfl

end Sys2Proof.Machine.Restarting

open Sys2Proof Sys2Proof.Machine Sys2Proof.Machine.Restarting

/-- Settles O8: each block is read off the state that a RESTART leaves, and the queue off the placing of its notices. -/
theorem restartKeepsAndClears : Obligations.RestartKeepsAndClears := by
  intro s taken
  rw [exec_restart_taken taken]
  constructor
  · intro unconfigured
    have refused : s.taking.handleRestart = s.taking.refuse 0x03 .wrongState := if_pos unconfigured
    rw [refused]
    exact congrArg _ (State.send_reply_taking s _ _ (State.takesNow_room taken))
  · intro configured
    refine ⟨_, congrArg _ (handleRestart_configured (s := s.taking) configured), rfl, rfl, rfl, rfl, rfl, rfl, rfl,
      ?counters, ?channels, rfl, rfl, rfl, rfl, rfl, ?view, rfl, rfl, rfl, rfl, rfl, rfl, ?pendingNotices, rfl, rfl, rfl,
      ?lost⟩
    case counters => intro n; cases n <;> rfl
    case channels => intro n; cases n <;> exact ⟨rfl, rfl⟩
    case view =>
      show s.store.restart.port.view = s.store.port.view
      cases port : s.store.port <;> simp [Store.restart, port, FlashPort.view]
    case pendingNotices =>
      intro slot
      show (Vector.replicate 8 none)[(slot : Nat)] = none
      simp
    case lost => exact decide_eq_true_iff
end

section
/-! PROOF. The lookup at arming (Table 5-2) and a JOURNAL BEGIN that passes its checks (R40, R41, R82 to R86, R117 to R121). -/

namespace Sys2Proof.Machine.Arming
open Sys2Proof Sys2Proof.Machine

/-! ## The lookup (Table 5-2) -/

section lookup
variable {x : Store} {key : Nat} {slot : Fin 24}

/-- The resident slot of a key holds that key. -/
theorem key_of_resident (resident : x.resident key = some slot) : (x.slots.get slot).key = some key := by
  simpa using List.find?_some resident

theorem lookup_filling (resident : x.resident key = some slot) (filling : x.slots.get slot = .filling key) :
    x.lookup key = (none, x) := by simp [Store.lookup, resident, filling]

theorem lookup_absent (resident : x.resident key = some slot) (absent : x.slots.get slot = .absent key) :
    x.lookup key = (none, x.toRecent slot) := by simp [Store.lookup, resident, absent]

/-- A slot usable as a band answers the lookup, and becomes the most recent. -/
theorem lookup_usable (resident : x.resident key = some slot) (usable : (x.slots.get slot).envelope.isSome = true) :
    x.lookup key = (some slot, x.toRecent slot) := by
  unfold Store.lookup
  rw [resident]
  cases held : x.slots.get slot <;> simp_all [EnvSlot.envelope]

theorem lookup_bad (missing : x.resident key = none) (bad : x.badKeys.getLsbD key = true) : x.lookup key = (none, x) := by
  simp [Store.lookup, missing, bad]

/-- The lookup gives the channel the slot that is usable as a band (R41). -/
theorem lookup_fst (x : Store) (key : Nat) : (x.lookup key).1 = x.usable key := by
  unfold Store.lookup Store.usable
  cases resident : x.resident key with
  | some slot =>
    have holds := key_of_resident resident
    cases held : x.slots.get slot <;> simp_all [Option.filter_some, EnvSlot.envelope, EnvSlot.key]
  | none =>
    dsimp only
    split
    · rfl
    · split
      · split <;> rfl
      · rfl

theorem placeDemand_port (x : Store) (key : Nat) : (x.placeDemand key).port = x.port := by
  unfold Store.placeDemand
  dsimp only
  split
  · rfl
  · split <;> rfl

/-- A lookup starts nothing at the flash port. -/
theorem lookup_port (x : Store) (key : Nat) : (x.lookup key).2.port = x.port := by
  unfold Store.lookup
  split
  · split <;> rfl
  · split
    · rfl
    · split
      · split
        · rfl
        · exact placeDemand_port (x.unqueue key) key
      · exact placeDemand_port x key

end lookup

/-! ## The place of a demand (R83) -/

section demands
variable {x : Store} {key : Nat} {demands prefetches : List FetchRequest}

theorem filter_demand (areDemands : ∀ r ∈ demands, r.kind = .demand)
    (arePrefetches : ∀ r ∈ prefetches, r.kind = .prefetch) :
    (demands ++ prefetches).filter (fun r => r.kind == .demand) = demands := by
  rw [List.filter_append, List.filter_eq_self.mpr (by simpa using areDemands),
    List.filter_eq_nil_iff.mpr fun r mem => by simp [arePrefetches r mem], List.append_nil]

theorem filter_prefetch (areDemands : ∀ r ∈ demands, r.kind = .demand)
    (arePrefetches : ∀ r ∈ prefetches, r.kind = .prefetch) :
    (demands ++ prefetches).filter (fun r => r.kind == .prefetch) = prefetches := by
  rw [List.filter_append, List.filter_eq_self (l := prefetches) |>.mpr (by simpa using arePrefetches),
    List.filter_eq_nil_iff.mpr fun r mem => by simp [areDemands r mem], List.nil_append]

/-- A demand stands behind the demands and ahead of the prefetches, of which the youngest gives way when the queue is full;
it is discarded when the queue is full of demands. -/
theorem placeDemand_eq (queue : x.queue = demands ++ prefetches) (areDemands : ∀ r ∈ demands, r.kind = .demand)
    (arePrefetches : ∀ r ∈ prefetches, r.kind = .prefetch) :
    x.placeDemand key =
      if x.queue.length < 4 then { x with queue := demands ++ [⟨key, .demand⟩] ++ prefetches }
      else if prefetches = [] then x
      else { x with queue := demands ++ [⟨key, .demand⟩] ++ prefetches.dropLast } := by
  have ahead : x.queue.filter (fun r => r.kind == .demand) = demands := queue ▸ filter_demand areDemands arePrefetches
  have behind : x.queue.filter (fun r => r.kind == .prefetch) = prefetches :=
    queue ▸ filter_prefetch areDemands arePrefetches
  simp [Store.placeDemand, ahead, behind]

/-- A key that a demand asks for is asked for once (Table 5-2). -/
theorem lookup_demanded (missing : x.resident key = none) (good : x.badKeys.getLsbD key = false)
    (queue : x.queue = demands ++ prefetches) (areDemands : ∀ r ∈ demands, r.kind = .demand)
    (asked : ∃ r ∈ demands, r.key = key) : x.lookup key = (none, x) := by
  obtain ⟨r, mem, same⟩ := asked
  obtain ⟨found, first⟩ := Option.isSome_iff_exists.mp
    (List.find?_isSome.mpr ⟨r, mem, by simp [same]⟩ : (demands.find? fun r => r.key == key).isSome = true)
  have demand := areDemands found (List.mem_of_find?_eq_some first)
  have inQueue : x.queue.find? (fun r => r.key == key) = some found := by rw [queue, List.find?_append, first]; rfl
  simp [Store.lookup, missing, good, inQueue, demand]

/-- A key that only a prefetch asks for is demanded in its stead (Table 5-2). -/
theorem lookup_prefetched (missing : x.resident key = none) (good : x.badKeys.getLsbD key = false)
    (queue : x.queue = demands ++ prefetches) (areDemands : ∀ r ∈ demands, r.kind = .demand)
    (arePrefetches : ∀ r ∈ prefetches, r.kind = .prefetch) (noDemand : ∀ r ∈ demands, r.key ≠ key)
    (asked : ∃ r ∈ prefetches, r.key = key) (fits : x.queue.length ≤ 4) :
    x.lookup key = (none, { x with
      queue := demands ++ [⟨key, .demand⟩] ++ prefetches.filter fun r => r.key != key }) := by
  obtain ⟨r, mem, same⟩ := asked
  obtain ⟨found, first⟩ := Option.isSome_iff_exists.mp
    (List.find?_isSome.mpr ⟨r, mem, by simp [same]⟩ : (prefetches.find? fun r => r.key == key).isSome = true)
  have prefetch := arePrefetches found (List.mem_of_find?_eq_some first)
  have inQueue : x.queue.find? (fun r => r.key == key) = some found := by
    rw [queue, List.find?_append, List.find?_eq_none.mpr (by simpa using noDemand), first]
    rfl
  have unqueued : (x.unqueue key).queue = demands ++ prefetches.filter fun r => r.key != key := by
    rw [Store.unqueue, queue, List.filter_append, List.filter_eq_self (l := demands) |>.mpr (by simpa using noDemand)]
  have shorter : (x.unqueue key).queue.length < 4 := by
    have removed : (prefetches.filter fun r => r.key != key).length < prefetches.length :=
      List.length_filter_lt_length_iff_exists.mpr ⟨r, mem, by simp [same]⟩
    rw [queue, List.length_append] at fits
    rw [unqueued, List.length_append]
    omega
  have placed := placeDemand_eq (key := key) unqueued areDemands fun r mem => arePrefetches r (List.mem_filter.mp mem).1
  simp only [Store.lookup, missing, good, inQueue, prefetch, placed, shorter, Bool.false_eq_true, if_true, if_false]
  rfl

/-- A key that nothing asks for is demanded (Table 5-2). -/
theorem lookup_unasked (missing : x.resident key = none) (good : x.badKeys.getLsbD key = false)
    (unasked : ∀ r ∈ x.queue, r.key ≠ key) : x.lookup key = (none, x.placeDemand key) := by
  have notFound : x.queue.find? (fun r => r.key == key) = none := List.find?_eq_none.mpr (by simpa using unasked)
  simp [Store.lookup, missing, good, notFound]

end demands

/-! ## What the arbiter and a prefetch leave as it was -/

variable {s t : State}

/-- From `s` to `t` the envelope store alone may have changed. -/
def storeOnly (s t : State) : Prop := t = s.setStore t.store

theorem storeOnly.trans {u : State} (h : storeOnly s t) (k : storeOnly t u) : storeOnly s u :=
  Eq.trans (b := (s.setStore t.store).setStore u.store) (Eq.trans k (congrArg (fun x => State.setStore x u.store) h)) rfl

theorem storeOnly_startFetch (s : State) (r : FetchRequest) (rest : List FetchRequest) :
    storeOnly s (s.startFetch r rest) := by
  unfold State.startFetch
  split <;> rfl

theorem storeOnly_startWrite (s : State) (slot : Fin 24) (rest : List (Fin 24)) : storeOnly s (s.startWrite slot rest) := by
  unfold State.startWrite
  split <;> rfl

theorem storeOnly_arbitrate (s : State) : storeOnly s s.arbitrate := by
  unfold State.arbitrate
  split
  · split
    · exact storeOnly_startFetch _ _ _
    · exact storeOnly_startWrite _ _ _
    · exact storeOnly_startFetch _ _ _
    · rfl
  · rfl

theorem storeOnly_prefetchFirst (s : State) (variant : Nat) (n : Wheelhead) (entries : List OpEntry) :
    storeOnly s (s.prefetchFirst variant n entries) := by
  unfold State.prefetchFirst
  split
  · exact storeOnly_arbitrate (s.setStore _)
  · rfl

theorem placePrefetch_port (x : Store) (key : Nat) : (x.placePrefetch key).port = x.port := by
  unfold Store.placePrefetch
  split <;> rfl

theorem placePrefetch_slots (x : Store) (key : Nat) : (x.placePrefetch key).slots = x.slots := by
  unfold Store.placePrefetch
  split <;> rfl

/-- With a busy port a prefetch only joins the queue (R84, R85). -/
theorem prefetchFirst_busy (busy : s.store.port ≠ .idle) (variant : Nat) (n : Wheelhead) (entries : List OpEntry) :
    (s.prefetchFirst variant n entries).store = match entries.find? (s.prefetchable variant n) with
      | some next => s.store.placePrefetch (keyOf n next.op)
      | none => s.store := by
  unfold State.prefetchFirst
  cases entries.find? (s.prefetchable variant n) with
  | none => rfl
  | some next =>
    dsimp only
    rw [State.raisePrefetch, State.arbitrate_busy (by rwa [State.setStore_store, placePrefetch_port])]
    rfl

/-- The entries after the first with its pair, wrapping round to it (R121). -/
theorem entriesAfter_split {ahead behind : List OpEntry} {e : OpEntry} (first : ∀ x ∈ ahead, x.op ≠ e.op) :
    entriesAfter e.op (ahead ++ e :: behind) = behind ++ ahead := by
  have pass : ∀ x ∈ ahead, (x.op != e.op) = true := by simpa using first
  rw [entriesAfter, List.dropWhile_append_of_pos pass, List.takeWhile_append_of_pos pass]
  simp

/-! ## Arming (R40, R41) -/

theorem teaches_some {c : Channel} {key : Nat} {b : TeachBuffer} (teach : c.teach = some b) (same : b.key = key) :
    c.teaches key = some b := by simp [Channel.teaches, teach, same]

theorem teaches_none {c : Channel} {key : Nat} (other : ∀ b, c.teach = some b → b.key ≠ key) : c.teaches key = none := by
  cases teach : c.teach with
  | none => simp [Channel.teaches, teach]
  | some b => simp [Channel.teaches, teach, other b teach]

/-- The band source at arming: TEACH, the usable resident slot, or pending (R41). -/
def armedSource (s : State) (n : Wheelhead) (e : OpEntry) : Option BandSource :=
  match (s.channels.get n).teaches (keyOf n e.op) with
  | some _ => some .teach
  | none => (s.store.usable (keyOf n e.op)).map .envelope

/-- The channel that has armed for an entry (R40, R98). -/
def armedChannel (s : State) (n : Wheelhead) (e : OpEntry) : Channel :=
  { activity := .journal .armed (Journal.start e.op e.cls e.slot (keyOf n e.op) (armedSource s n e) s.overlongAt)
    teach := match (s.channels.get n).teaches (keyOf n e.op) with
      | some b => some b.openGrind
      | none => (s.channels.get n).teach }

/-- The store once the key has been looked up, which a teach on it leaves undone (R41, R82). -/
def lookedUp (s : State) (n : Wheelhead) (e : OpEntry) : Store :=
  match (s.channels.get n).teaches (keyOf n e.op) with
  | some _ => s.store
  | none => (s.store.lookup (keyOf n e.op)).2

open Classical in
theorem lookedUp_eq (s : State) (n : Wheelhead) (e : OpEntry) : lookedUp s n e =
    if ∃ b, (s.channels.get n).teach = some b ∧ b.key = keyOf n e.op then s.store
    else (s.store.lookup (keyOf n e.op)).2 := by
  unfold lookedUp
  by_cases waits : ∃ b, (s.channels.get n).teach = some b ∧ b.key = keyOf n e.op
  · rw [if_pos waits]
    obtain ⟨b, teach, same⟩ := waits
    rw [teaches_some teach same]
  · rw [if_neg waits, teaches_none fun b teach same => waits ⟨b, teach, same⟩]

/-- The state of an armed channel before the arbiter acts. -/
def armed (s : State) (n : Wheelhead) (e : OpEntry) : State :=
  ((s.setCounter n { s.counters.get n with journalEnd := none }).setStore (lookedUp s n e)).setChannel n (armedChannel s n e)

/-- Arming ends with the arbiter where the key was looked up (R82, R85). -/
theorem arm_eq (s : State) (n : Wheelhead) (e : OpEntry) : s.arm n e =
    if ((s.channels.get n).teaches (keyOf n e.op)).isSome then armed s n e else (armed s n e).arbitrate := by
  unfold State.arm armed armedChannel armedSource lookedUp
  dsimp only
  cases (s.channels.get n).teaches (keyOf n e.op) with
  | some b => rfl
  | none => rw [← lookup_fst]; rfl

theorem storeOnly_arm (s : State) (n : Wheelhead) (e : OpEntry) : storeOnly (armed s n e) (s.arm n e) := by
  rw [arm_eq]
  split
  · rfl
  · exact storeOnly_arbitrate _

/-- A JOURNAL BEGIN changes the store and, of the rest, what arming changes (R120). -/
theorem beginJournal_eq (s : State) (n : Wheelhead) (e : OpEntry) :
    s.beginJournal n e = { s with
      counters := s.counters.set n { s.counters.get n with journalEnd := none }
      channels := s.channels.set n (armedChannel s n e), store := (s.beginJournal n e).store } :=
  (storeOnly_arm s n e).trans (storeOnly_prefetchFirst _ e.op.variant n (entriesAfter e.op s.sister.opList))

/-- With a busy port the key is looked up and the prefetch joins the queue, and no fetch starts (R84, R85). -/
theorem beginJournal_busy {n : Wheelhead} {e : OpEntry} (busy : s.store.port ≠ .idle) {ahead behind : List OpEntry}
    (list : s.sister.opList = ahead ++ e :: behind) (first : ∀ x ∈ ahead, x.op ≠ e.op) :
    (s.beginJournal n e).store = match (behind ++ ahead).find? (s.prefetchable e.op.variant n) with
      | some next => (lookedUp s n e).placePrefetch (keyOf n next.op)
      | none => lookedUp s n e := by
  have port : (lookedUp s n e).port = s.store.port := by
    unfold lookedUp
    split
    · rfl
    · exact lookup_port _ _
  have still : s.arm n e = armed s n e := by
    rw [arm_eq, State.arbitrate_busy (s := armed s n e) (port ▸ busy), ite_self]
  rw [State.beginJournal, still, list, entriesAfter_split first, prefetchFirst_busy (s := armed s n e) (port ▸ busy)]
  rfl

/-! ## A demand at an idle port (R86) -/

/-- The slot chosen for a fetch depends on the slots, their order and the slots that the channels hold (R79, R81). -/
theorem chooseSlot_congr (slots : t.store.slots = s.store.slots) (lru : t.store.lru = s.store.lru)
    (held : ∀ n, (t.channels.get n).heldSlot = (s.channels.get n).heldSlot) : t.chooseSlot = s.chooseSlot := by
  have pinned : t.pinnedSlot = s.pinnedSlot := by
    funext slot
    have held0 : t.channels.w0.heldSlot = s.channels.w0.heldSlot := held .w0
    have held1 : t.channels.w1.heldSlot = s.channels.w1.heldSlot := held .w1
    simp only [State.pinnedSlot, slots, held0, held1]
  simp only [State.chooseSlot, slots, lru, pinned]

/-- The front demand of an idle port starts its fetch in the slot chosen for it (R85, R86). -/
theorem arbitrate_demand {key : Nat} {rest : List FetchRequest} {slot : Fin 24} (idle : s.store.port = .idle)
    (queue : s.store.queue = ⟨key, .demand⟩ :: rest) (chosen : s.chooseSlot = some slot) :
    s.arbitrate.store.port = .fetching slot key 0 false ∧
      s.arbitrate.store.slots = s.store.slots.set slot (.filling key) := by
  have starts : s.arbitrate = s.startFetch ⟨key, .demand⟩ rest := by simp [State.arbitrate, idle, queue]
  rw [starts]
  unfold State.startFetch
  rw [chosen]
  exact ⟨rfl, rfl⟩

theorem heldSlot_idle {c : Channel} (idle : c.state = .idle) : c.heldSlot = none := by
  cases activity : c.activity with
  | idle => simp [Channel.heldSlot, activity]
  | stopped => simp [Channel.heldSlot, activity]
  | journal phase j => cases phase <;> simp [Channel.state, activity] at idle
  | dressing d => simp [Channel.heldSlot, activity]

/-- A key that the store knows nothing of is fetched at once by an idle port with an empty queue (R86). -/
theorem beginJournal_idle {n : Wheelhead} {e : OpEntry} {slot : Fin 24} (rest : (s.channels.get n).state = .idle)
    (noTeach : (s.channels.get n).teaches (keyOf n e.op) = none) (idle : s.store.port = .idle) (empty : s.store.queue = [])
    (missing : s.store.resident (keyOf n e.op) = none) (good : s.store.badKeys.getLsbD (keyOf n e.op) = false)
    (chosen : s.chooseSlot = some slot) :
    (s.beginJournal n e).store.port = .fetching slot (keyOf n e.op) 0 false ∧
      (s.beginJournal n e).store.slots = s.store.slots.set slot (.filling (keyOf n e.op)) := by
  have looked : lookedUp s n e = { s.store with queue := [⟨keyOf n e.op, .demand⟩] } := by
    have unasked := lookup_unasked (x := s.store) missing good (by simp [empty])
    have placed := placeDemand_eq (x := s.store) (key := keyOf n e.op) (demands := []) (prefetches := []) empty nofun nofun
    rw [lookedUp, noTeach]
    dsimp only
    rw [unasked, placed, if_pos (by simp [empty])]
    rfl
  have store : (armed s n e).store = { s.store with queue := [⟨keyOf n e.op, .demand⟩] } := looked
  have slots : (armed s n e).store.slots = s.store.slots := by rw [store]
  have lru : (armed s n e).store.lru = s.store.lru := by rw [store]
  have pending : armedSource s n e = none := by simp [armedSource, noTeach, Store.usable, missing]
  have same : (armed s n e).chooseSlot = s.chooseSlot := by
    refine chooseSlot_congr (t := armed s n e) slots lru fun k => ?_
    by_cases own : k = n
    · subst own
      rw [heldSlot_idle rest]
      simp [armed, armedChannel, Channel.heldSlot, Journal.start, pending]
    · simp [armed, PerHead.get_set_other _ _ own]
  obtain ⟨port, filling⟩ := arbitrate_demand (s := armed s n e) (by rw [store]; exact idle) (by rw [store])
    (same.trans chosen)
  have arms : s.arm n e = (armed s n e).arbitrate := by rw [arm_eq, noTeach]; rfl
  have busy : (s.arm n e).store.port ≠ .idle := by rw [arms, port]; nofun
  have filling' : (s.arm n e).store.slots = s.store.slots.set slot (.filling (keyOf n e.op)) := by
    rw [arms, filling, slots]
  rw [State.beginJournal, prefetchFirst_busy busy]
  split
  · exact ⟨(placePrefetch_port _ _).trans (arms ▸ port), (placePrefetch_slots _ _).trans filling'⟩
  · exact ⟨arms ▸ port, filling'⟩

/-! ## The request (R117, R120) -/

theorem exec_journalBegin_taken {variant journal : Byte} (taken : s.takesNow (.journalBegin variant journal) = true) :
    exec (.journalBegin variant journal) s = .next (s.taking.handleJournalBegin variant journal) :=
  Restarting.next_arrive_taken taken rfl

/-- A JOURNAL BEGIN that passes the checks of Table 7-3 begins the journal of its entry. -/
theorem handleJournalBegin_accepted {variant journal : Byte} {op : Op} {e : OpEntry} {n : Wheelhead} {tool : Tool}
    (running : s.station = .running) (reads : opOf variant journal = some op) (part : s.sister.part = some op.variant)
    (own : s.sister.isLent op = false) (listed : s.sister.entry op = some e) (mounted : s.tools.get e.slot = some tool)
    (seat : tool.seat = .wheelhead n) (fit : tool.check s.figures.overrunAllowance = none)
    (idle : (s.channels.get n).state = .idle) :
    s.handleJournalBegin variant journal = (s.beginJournal n e).accept 0x0A := by
  have pair : s.checkJournalPair variant journal = .ok op := by simp [State.checkJournalPair, running, reads, part]
  have entry : s.sister.lookup op = some e := by simp [Sister.lookup, own, listed]
  have check : s.checkEntry e = .ok n := by
    simp [State.checkEntry, State.wheelheadOfSlot, State.toolCheck, mounted, seat, fit]
  simp [State.handleJournalBegin, pair, entry, check, idle]

theorem op_of_entry {x : Sister} {op : Op} {e : OpEntry} (listed : x.entry op = some e) : e.op = op := by
  simpa using List.find?_some listed

end Sys2Proof.Machine.Arming

open Sys2Proof Sys2Proof.Machine Sys2Proof.Machine.Arming

/-- Settles O30: the lookup by the cases of Table 5-2, and the request by what beginning a journal makes of the channel and of
the store. -/
theorem journalBeginArms : Obligations.JournalBeginArms := by
  constructor
  · intro x key
    refine ⟨fun _ resident => ⟨lookup_filling resident, lookup_absent resident, lookup_usable resident⟩, lookup_bad,
      fun missing good demands prefetches queue areDemands arePrefetches =>
        ⟨lookup_demanded missing good queue areDemands, fun noDemand =>
          ⟨lookup_prefetched missing good queue areDemands arePrefetches noDemand, fun noPrefetch => ?_⟩⟩⟩
    have unasked : ∀ r ∈ x.queue, r.key ≠ key := by
      intro r mem
      rw [queue] at mem
      exact (List.mem_append.mp mem).elim (noDemand r) (noPrefetch r)
    have placed := placeDemand_eq (key := key) queue areDemands arePrefetches
    rw [lookup_unasked missing good unasked, placed]
    exact ⟨fun room => by rw [if_pos room], fun full some => by rw [if_neg (Nat.not_lt.mpr full), if_neg some],
      fun full none => by rw [if_neg (Nat.not_lt.mpr full), if_pos none]⟩
  · intro variant journal op e n tool s taken running reads part own listed mounted seat fit idle
    obtain rfl := op_of_entry listed
    have accepted := handleJournalBegin_accepted (s := s.taking) running reads part own listed mounted seat fit idle
    have begun := beginJournal_eq s.taking n e
    have room := State.takesNow_room taken
    have replied : (s.taking.beginJournal n e).accept 0x0A = { s.answered 0x0A (.accepted .plain) with
        counters := s.counters.set n { s.counters.get n with journalEnd := none }
        channels := s.channels.set n (armedChannel s n e), store := (s.taking.beginJournal n e).store } := by
      rw [begun]
      exact State.send_reply _ _ room
    refine ⟨_, Journal.start e.op e.cls e.slot (keyOf n e.op) (armedSource s n e) s.overlongAt,
      (exec_journalBegin_taken taken).trans (congrArg _ (accepted.trans replied)), rfl, rfl, ?others, ?activity, rfl, rfl,
      rfl, rfl, rfl, rfl, rfl, rfl, rfl, rfl, rfl, rfl, rfl, rfl, rfl, rfl, rfl, rfl, rfl, rfl, rfl, rfl, ?teach, ?noTeach,
      ?busy, ?fetch⟩
    case others => exact fun k other => PerHead.get_set_other _ _ other
    case activity => exact congrArg Channel.activity (PerHead.get_set_same s.channels n (armedChannel s n e))
    case teach =>
      intro b teach same
      have teaches := teaches_some teach same
      exact ⟨by simp [Journal.start, armedSource, teaches], by simp [armedChannel, teaches, TeachBuffer.openGrind]⟩
    case noTeach =>
      intro other
      have teaches := teaches_none other
      exact ⟨by simp [armedChannel, teaches], by simp [Journal.start, armedSource, teaches]⟩
    case busy =>
      intro ahead behind busy list first looked
      have same : lookedUp s n e = looked := lookedUp_eq s n e
      rw [← same]
      exact beginJournal_busy (s := s.taking) busy list first
    case fetch =>
      intro other idlePort empty missing good slot chosen
      exact beginJournal_idle (s := s.taking) idle (teaches_none other) idlePort empty missing good chosen
end

section
/-! PROOF. The measured depth of a dress at its close and its reconciliation with the report (R68). -/

namespace Sys2Proof.Machine.Reconciling
open Sys2Proof Sys2Proof.Machine

/-! ## The measure at the close -/

section measure
variable {s : State} {n : Wheelhead}

theorem measuredDepth_absent (absent : (s.counters.get n).dressContact = none) : s.measuredDepth n = none := by
  simp [State.measuredDepth, absent]

theorem measuredDepth_captured {contact : Pos} (captured : (s.counters.get n).dressContact = some contact) :
    s.measuredDepth n = some ((s.counters.get n).count - contact).toInt.natAbs := by
  simp [State.measuredDepth, captured, distance]

end measure

/-! ## The cases of R68 -/

section reconcile
variable {tol reported measured : Nat}

/-- The difference the model takes on naturals is the magnitude R68 compares with dress_tol. -/
theorem max_sub_sub_eq_natAbs (a b : Nat) : max (a - b) (b - a) = ((a : Int) - b).natAbs := by omega

theorem reconcile_unmeasured : reconcile tol (some reported) none = (min reported 500, false) := rfl

theorem reconcile_agree (near : ((reported : Int) - measured).natAbs ≤ tol) :
    reconcile tol (some reported) (some measured) = (min reported 500, false) :=
  if_pos (Nat.le_trans (Nat.le_of_eq (max_sub_sub_eq_natAbs reported measured)) near)

theorem reconcile_disagree (far : tol < ((reported : Int) - measured).natAbs) :
    reconcile tol (some reported) (some measured) = (min (max reported measured) 500, true) :=
  if_neg (Nat.not_le.mpr (Nat.lt_of_lt_of_eq far (max_sub_sub_eq_natAbs reported measured).symm))

end reconcile

/-! ## The record -/

/-- A dress record carries the measure, and the depth and mismatch flag that the report and that measure reconcile to (R68,
R72). -/
theorem dressRecord_reconciles {s : State} {n : Wheelhead} {reported measured : Option Nat} (d : Dress)
    (measure : s.measuredDepth n = measured) :
    (s.dressRecord n d reported).measured = measured ∧
    (s.dressRecord n d reported).depth = (reconcile s.figures.dressTol reported measured).1 ∧
    (s.dressRecord n d reported).depthMismatch = (reconcile s.figures.dressTol reported measured).2 := by
  subst measure
  exact ⟨rfl, rfl, rfl⟩

end Sys2Proof.Machine.Reconciling

open Sys2Proof Sys2Proof.Machine Sys2Proof.Machine.Reconciling

/-- Settles O36: the record reads its depth off `reconcile`, taken by the rows of R68: no capture, agreement, mismatch. -/
theorem depthIsReconciled : Obligations.DepthIsReconciled := by
  intro s n d reported
  constructor
  · intro absent
    have record := dressRecord_reconciles (reported := some reported) d (measuredDepth_absent absent)
    rwa [reconcile_unmeasured] at record
  · rintro contact measured captured rfl
    obtain ⟨measure, depth, mismatch⟩ :=
      dressRecord_reconciles (reported := some reported) d (measuredDepth_captured captured)
    refine ⟨measure, fun near => ?agree, fun far => ?disagree⟩
    case agree =>
      rw [reconcile_agree near] at depth mismatch
      exact ⟨depth, mismatch⟩
    case disagree =>
      rw [reconcile_disagree far] at depth mismatch
      exact ⟨depth, mismatch⟩
end

section
/-! PROOF. The tool table (R12 to R17, R73, R74): what a charge, a breakage and their reports leave as it was. -/

namespace Sys2Proof.Machine.Charging
open Sys2Proof Sys2Proof.Machine

variable {s t u : State}

/-- From `s` to `t` the tools may have changed, and what reports change (R14, R16): the envelope store, the check channels
and the figures are as they were. -/
structure ToolsMove (s t : State) : Prop where
  store : t.store = s.store
  channels : t.channels = s.channels
  figures : t.figures = s.figures

theorem ToolsMove.refl (s : State) : ToolsMove s s := ⟨rfl, rfl, rfl⟩

theorem ToolsMove.trans (h : ToolsMove s t) (k : ToolsMove t u) : ToolsMove s u :=
  ⟨k.store.trans h.store, k.channels.trans h.channels, k.figures.trans h.figures⟩

/-- A report moves no tool. -/
theorem ToolsMove.of_reports {R : Sister → Sister → Prop} (h : s.Reports R t) : ToolsMove s t :=
  ⟨h.only.store, h.only.channels, h.only.figures⟩

theorem ToolsMove.setTool (s : State) (slot : Fin 8) (tool : Option Tool) : ToolsMove s (s.setTool slot tool) :=
  ⟨rfl, rfl, rfl⟩

theorem ToolsMove.send (s : State) (m : OutMsg) : ToolsMove s (s.send m) := ⟨rfl, rfl, rfl⟩

theorem ToolsMove.sendToolNotice (s : State) (slot : Fin 8) : ToolsMove s (s.sendToolNotice slot) := ⟨rfl, rfl, rfl⟩

theorem ToolsMove.chargeTool (s : State) (slot : Fin 8) (c : Nat) : ToolsMove s (s.chargeTool slot c) := by
  unfold State.chargeTool
  split
  · exact .setTool _ _ _
  · exact .refl s

theorem ToolsMove.setBroken (s : State) (slot : Fin 8) : ToolsMove s (s.setBroken slot) := by
  unfold State.setBroken
  split
  · exact .setTool _ _ _
  · exact .refl s

theorem ToolsMove.clearContacts (s : State) (n : Wheelhead) : ToolsMove s (s.clearContacts n) := by
  unfold State.clearContacts
  split
  · split
    · exact .setTool _ _ _
    · exact .refl s
  · exact .refl s

theorem ToolsMove.noticeCharge (s : State) (slot : Fin 8) (before : Option Tool) :
    ToolsMove s (s.noticeCharge slot before) := by
  unfold State.noticeCharge
  split
  · split
    · exact .sendToolNotice _ _
    · exact .refl s
  · exact .refl s

theorem ToolsMove.reportCharge (s : State) (slot : Fin 8) (before : Option Tool) :
    ToolsMove s (s.reportCharge slot before) := by
  cases before with
  | none => exact .refl s
  | some tool => exact .of_reports (State.Reports.done.reportState slot tool.state)

theorem ToolsMove.raiseDressDue (s : State) (n : Wheelhead) (slot : Fin 8) (tool : Tool) (q : Nat) :
    ToolsMove s (s.raiseDressDue n slot tool q) := by
  unfold State.raiseDressDue
  dsimp only
  split
  · exact (((ToolsMove.send s _).trans (.setTool _ _ _)).trans (.sendToolNotice _ _)).trans
      (.of_reports (State.Reports.done.takeTrigger _ _ _ _))
  · exact .send s _

theorem ToolsMove.updateDressRun (s : State) (n : Wheelhead) (slot : Fin 8) (q : Nat) :
    ToolsMove s (s.updateDressRun n slot q) := by
  unfold State.updateDressRun
  split
  · split
    · exact .refl s
    · dsimp only
      split
      · exact (ToolsMove.setTool s _ _).trans (.raiseDressDue _ _ _ _ _)
      · exact .setTool _ _ _
  · exact .refl s

theorem ToolsMove.afterCharge (s : State) (n : Wheelhead) (slot : Fin 8) (before : Option Tool) (q : Nat) :
    ToolsMove s (s.afterCharge n slot before q) :=
  ((ToolsMove.noticeCharge s slot before).trans (.updateDressRun _ _ _ _)).trans (.reportCharge _ _ _)

theorem ToolsMove.dressWheel (s : State) (n : Wheelhead) (slot : Fin 8) (depth : Nat) (cleared : Bool) :
    ToolsMove s (s.dressWheel n slot depth cleared) := by
  unfold State.dressWheel
  split
  · exact .setTool _ _ _
  · exact .refl s

theorem ToolsMove.noticeDressed (s : State) (slot : Fin 8) (before : Option Tool) :
    ToolsMove s (s.noticeDressed slot before) := by
  unfold State.noticeDressed
  split
  · exact .sendToolNotice _ _
  · exact .noticeCharge _ _ _

theorem ToolsMove.reportDress (s : State) (d : Dress) (wheel roll : Option Tool) :
    ToolsMove s (s.reportDress d wheel roll) := by
  have charged := (ToolsMove.reportCharge s d.wheelSlot wheel).trans (.reportCharge _ d.rollSlot roll)
  unfold State.reportDress
  dsimp only
  split
  · exact (charged.trans (.of_reports (State.Reports.done.reportUnblocked _))).trans ⟨rfl, rfl, rfl⟩
  · exact charged.trans ⟨rfl, rfl, rfl⟩

/-- The end of a step moves no tool. -/
theorem ToolsMove.finish (before s : State) : ToolsMove s (before.finish s) :=
  .of_reports (State.Reports.finish before .done)

end Sys2Proof.Machine.Charging
end

section
/-! PROOF. The soundness of the fetch queue (R83, R84, R86, R91): what an operation of the envelope store does to it, and that
every other command leaves the store as it was. -/

namespace Sys2Proof.Machine.FetchQueue
open Sys2Proof Sys2Proof.Machine Sys2Proof.Machine.SampleInstant Sys2Proof.Machine.Charging

/-! ## The slots and the queue -/

section stores
variable {x : Store} {key : Nat}

theorem mem_envSlots (slot : Fin 24) : slot ∈ envSlots := by
  revert slot
  decide

/-- A key is not resident when no slot holds it. -/
theorem resident_eq_none : x.resident key = none ↔ ∀ slot, (x.slots.get slot).key ≠ some key := by
  simp [Store.resident, List.find?_eq_none, mem_envSlots]

/-- A key that is not resident stays so when a slot takes another key or none. -/
theorem resident_setSlot_none {slot : Fin 24} {e : EnvSlot} (missing : x.resident key = none) (other : e.key ≠ some key) :
    (x.setSlot slot e).resident key = none := by
  rw [resident_eq_none] at missing ⊢
  intro k
  by_cases same : k = slot
  · subst same
    simpa [Store.setSlot] using other
  · simpa [Store.setSlot, vector_get_set_other _ _ same] using missing k

/-- A queue from which requests are taken stays sound when a slot takes a key: the one it held, or one that no request left
asks for. -/
theorem queueSound_setSlot {slot : Fin 24} {e : EnvSlot} {rest : List FetchRequest} (sound : x.queueSound)
    (kept : rest.Sublist x.queue)
    (fresh : ∀ key, e.key = some key → (x.slots.get slot).key = some key ∨ ∀ r ∈ rest, r.key ≠ key) :
    ({ x.setSlot slot e with queue := rest }).queueSound := by
  obtain ⟨few, once, ordered, missing⟩ := sound
  refine ⟨Nat.le_trans kept.length_le few, once.sublist (kept.map _), ordered.sublist kept, fun r mem => ?_⟩
  have absent := missing r (kept.subset mem)
  refine resident_setSlot_none absent fun holds => ?_
  exact (fresh r.key holds).elim (resident_eq_none.mp absent slot) fun asked => asked r mem rfl

/-- A queue from which requests are taken stays sound. -/
theorem queueSound_sublist {rest : List FetchRequest} (sound : x.queueSound) (kept : rest.Sublist x.queue) :
    ({ x with queue := rest }).queueSound := by
  obtain ⟨few, once, ordered, missing⟩ := sound
  exact ⟨Nat.le_trans kept.length_le few, once.sublist (kept.map _), ordered.sublist kept,
    fun r mem => missing r (kept.subset mem)⟩

/-- A request for a new key that is not resident joins a sound queue with room in the place of its kind. -/
theorem queueSound_insert {ahead behind : List FetchRequest} {r : FetchRequest} (sound : x.queueSound)
    (kept : (ahead ++ behind).Sublist x.queue) (room : (ahead ++ behind).length < 4) (missing : x.resident r.key = none)
    (unasked : ∀ k ∈ x.queue, k.key ≠ r.key) (demands : r.kind = .demand → ∀ k ∈ ahead, k.kind = .demand)
    (prefetches : r.kind = .prefetch → ∀ k ∈ behind, k.kind = .prefetch) :
    ({ x with queue := ahead ++ r :: behind }).queueSound := by
  obtain ⟨-, once, ordered, absent⟩ := queueSound_sublist sound kept
  have new : ∀ k ∈ ahead ++ behind, k.key ≠ r.key := fun k mem => unasked k (kept.subset mem)
  refine ⟨?few, ?once, ?ordered, ?absent⟩
  case few =>
    simp only [List.length_append, List.length_cons] at room ⊢
    omega
  case once =>
    rw [List.map_append, List.map_cons, List.perm_middle.nodup_iff, ← List.map_append]
    refine List.nodup_cons.mpr ⟨fun mem => ?_, once⟩
    obtain ⟨k, queued, same⟩ := List.mem_map.mp mem
    exact new k queued same
  case ordered =>
    obtain ⟨before, after, across⟩ := List.pairwise_append.mp ordered
    refine List.pairwise_append.mpr ⟨before, List.pairwise_cons.mpr ⟨fun k mem isDemand => ?_, after⟩, fun k mem j other => ?_⟩
    · cases kind : r.kind with
      | demand => rfl
      | prefetch => rw [prefetches kind k mem] at isDemand; cases isDemand
    · rcases List.mem_cons.mp other with rfl | other
      · exact fun kind => demands kind k mem
      · exact across k mem j other
  case absent =>
    intro k mem
    rw [List.mem_append, List.mem_cons, or_left_comm, ← List.mem_append] at mem
    exact mem.elim (fun same => same ▸ missing) (absent k)

/-- A queue with its demands ahead is its demands and then its prefetches. -/
theorem demands_append_prefetches {queue : List FetchRequest}
    (ordered : queue.Pairwise fun r k => k.kind = .demand → r.kind = .demand) :
    queue.filter (fun r => r.kind == .demand) ++ queue.filter (fun r => r.kind == .prefetch) = queue := by
  induction queue with
  | nil => rfl
  | cons r rest ih =>
    obtain ⟨first, ordered⟩ := List.pairwise_cons.mp ordered
    cases kind : r.kind with
    | demand => simp [kind, ih ordered]
    | prefetch =>
      have behind : ∀ k ∈ rest, k.kind = .prefetch := fun k mem => by
        cases other : k.kind with
        | prefetch => rfl
        | demand => rw [first k mem other] at kind; cases kind
      rw [List.filter_eq_nil_iff.mpr (by simp +contextual [kind, behind]),
        List.filter_eq_self.mpr (by simpa [kind] using behind), List.nil_append]

/-- A demand for a new key that is not resident leaves the queue sound (R83). -/
theorem queueSound_placeDemand (sound : x.queueSound) (missing : x.resident key = none)
    (unasked : ∀ k ∈ x.queue, k.key ≠ key) : (x.placeDemand key).queueSound := by
  obtain ⟨few, -, ordered, -⟩ := id sound
  have queue := (demands_append_prefetches ordered).symm
  have areDemands : ∀ r ∈ x.queue.filter (fun r => r.kind == .demand), r.kind = .demand := by simp
  have arePrefetches : ∀ r ∈ x.queue.filter (fun r => r.kind == .prefetch), r.kind = .prefetch := by simp
  generalize x.queue.filter (fun r => r.kind == .demand) = demands at queue areDemands
  generalize x.queue.filter (fun r => r.kind == .prefetch) = prefetches at queue arePrefetches
  rw [Arming.placeDemand_eq queue areDemands arePrefetches]
  split
  · rename_i room
    rw [List.append_assoc, List.singleton_append]
    exact queueSound_insert sound (queue ▸ .refl _) (queue ▸ room) missing unasked (fun _ => areDemands) nofun
  · split
    · exact sound
    · rename_i some
      have shorter := List.length_pos_iff.mpr some
      rw [List.append_assoc, List.singleton_append]
      refine queueSound_insert sound ?_ ?_ missing unasked (fun _ => areDemands) nofun
      · rw [queue]
        exact (List.dropLast_sublist prefetches).append_left demands
      · rw [queue, List.length_append] at few
        rw [List.length_append, List.length_dropLast]
        omega

/-- The lookup at arming leaves the queue sound (Table 5-2). -/
theorem queueSound_lookup (sound : x.queueSound) (key : Nat) : (x.lookup key).2.queueSound := by
  unfold Store.lookup
  split
  · split <;> exact sound
  · rename_i missing
    split
    · exact sound
    · split
      · split
        · exact sound
        · exact queueSound_placeDemand (queueSound_sublist sound List.filter_sublist) missing (by simp [Store.unqueue])
      · rename_i notFound
        exact queueSound_placeDemand sound missing (by simpa using notFound)

/-- A prefetch leaves the queue sound (R84). -/
theorem queueSound_placePrefetch (sound : x.queueSound) (key : Nat) : (x.placePrefetch key).queueSound := by
  unfold Store.placePrefetch
  split
  · exact sound
  · rename_i taken
    simp only [Bool.or_eq_true, Option.isSome_iff_ne_none, List.any_eq_true, beq_iff_eq, decide_eq_true_eq, not_or, not_exists,
      not_and, ne_eq, Classical.not_not, Nat.not_le] at taken
    obtain ⟨⟨⟨missing, -⟩, unasked⟩, room⟩ := taken
    exact queueSound_insert (r := ⟨key, .prefetch⟩) sound ((List.append_nil x.queue).symm ▸ .refl _) (by rwa [List.append_nil])
      missing unasked nofun nofun

/-- A slot that takes a teach result takes the request for its key out of the queue (R91). -/
theorem queueSound_placeInto (sound : x.queueSound) (slot : Fin 24) (key : Nat) (env : Envelope) :
    (x.placeInto slot key env).queueSound := by
  have unqueued : (x.unqueue key).queueSound := queueSound_sublist sound List.filter_sublist
  refine queueSound_setSlot unqueued (.refl _) fun k taken => .inr fun r mem => ?_
  cases taken
  exact bne_iff_ne.mp (List.mem_filter.mp mem).2

/-- A slot that becomes EMPTY leaves the queue sound. -/
theorem queueSound_emptySlot (sound : x.queueSound) (slot : Fin 24) : (x.emptySlot slot).queueSound :=
  queueSound_setSlot sound (.refl _) nofun

/-- A slot whose state changes and whose key stands leaves the queue sound. -/
theorem queueSound_sameKey {slot : Fin 24} {e : EnvSlot} (sound : x.queueSound) (same : e.key = (x.slots.get slot).key) :
    (x.setSlot slot e).queueSound :=
  queueSound_setSlot sound (.refl _) fun _ holds => .inl (same ▸ holds)

/-- A FILLING slot takes the outcome of the read of its key. -/
theorem queueSound_filled {slot : Fin 24} {e : EnvSlot} (sound : x.queueSound) (holds : e.key = some key) :
    (if x.slots.get slot == .filling key then (x.setSlot slot e).toRecent slot else x).queueSound := by
  split
  · rename_i filling
    exact queueSound_sameKey sound (by rw [holds, eq_of_beq filling]; rfl)
  · exact sound

theorem queueSound_reset : Store.reset.queueSound := ⟨Nat.zero_le 4, .nil, .nil, nofun⟩

end stores

/-! ## The flash port -/

section port
variable {s : State} (sound : s.store.queueSound)
include sound

/-- The front request leaves the queue for the slot that becomes FILLING with its key (R86). -/
theorem queueSound_startFetch {r : FetchRequest} {rest : List FetchRequest} (queue : s.store.queue = r :: rest) :
    (s.startFetch r rest).store.queueSound := by
  unfold State.startFetch
  split
  · exact sound
  · obtain ⟨-, once, -, -⟩ := id sound
    rw [queue, List.map_cons] at once
    refine queueSound_setSlot sound (queue ▸ List.sublist_cons_self r rest) fun key taken => .inr fun k mem same => ?_
    cases taken
    exact (List.nodup_cons.mp once).1 (same ▸ List.mem_map_of_mem mem)

theorem queueSound_startWrite (slot : Fin 24) (rest : List (Fin 24)) : (s.startWrite slot rest).store.queueSound := by
  unfold State.startWrite
  split <;> exact sound

theorem queueSound_arbitrate : s.arbitrate.store.queueSound := by
  by_cases idle : s.store.port = .idle
  · obtain ⟨key, rest, queue, starts⟩ | ⟨-, ⟨slot, rest, -, starts⟩ | ⟨-, ⟨r, rest, queue, starts⟩ | ⟨-, starts⟩⟩⟩ :=
      State.arbitrate_idle idle
    · rw [starts]; exact queueSound_startFetch sound queue
    · rw [starts]; exact queueSound_startWrite sound slot rest
    · rw [starts]; exact queueSound_startFetch sound queue
    · rw [starts]; exact sound
  · rw [State.arbitrate_busy idle]; exact sound

theorem queueSound_prefetchFirst (variant : Nat) (n : Wheelhead) (entries : List OpEntry) :
    (s.prefetchFirst variant n entries).store.queueSound := by
  unfold State.prefetchFirst
  split
  · exact queueSound_arbitrate (s := s.setStore _) (queueSound_placePrefetch sound _)
  · exact sound

theorem queueSound_endRead (slot : Fin 24) (key reads : Nat) (cutShort : Bool) (bytes : List Byte) :
    (s.endRead slot key reads cutShort bytes).store.queueSound := by
  have idle : ({ s.store with port := .idle } : Store).queueSound := sound
  have emptied := queueSound_emptySlot idle slot
  unfold State.endRead
  dsimp only
  split
  · exact queueSound_arbitrate (s := s.setStore _) (queueSound_filled idle rfl)
  · exact queueSound_arbitrate (s := s.setStore _) (queueSound_filled idle rfl)
  · split
    · refine queueSound_arbitrate (s := s.setStore _) ?_
      split
      · exact emptied
      · exact idle
    · split
      · exact sound
      · split
        · exact queueSound_arbitrate (s := (s.setStore _).sendStoreNotice _) emptied
        · exact queueSound_arbitrate (s := s.setStore _) idle

theorem queueSound_endWrite (slot : Fin 24) (discard good : Bool) : (s.endWrite slot discard good).store.queueSound := by
  have idle : ({ s.store with port := .idle } : Store).queueSound := sound
  unfold State.endWrite
  dsimp only
  split
  · exact queueSound_arbitrate (s := s.setStore _) idle
  · split
    · rename_i key env attempts held
      have kept {e : EnvSlot} (holds : e.key = some key) :
          ({ s.store with port := .idle }.setSlot slot e).queueSound := queueSound_sameKey idle (by rw [holds, held]; rfl)
      split
      · exact queueSound_arbitrate (s := s.setStore _) (kept rfl)
      · split
        · exact queueSound_arbitrate (s := s.setStore _) (kept rfl)
        · exact queueSound_arbitrate (s := (s.setStore _).sendStoreNotice _) (kept rfl)
    · exact queueSound_arbitrate (s := s.setStore _) idle

theorem queueSound_placeEnvelope (key : Nat) (env : Envelope) : (s.placeEnvelope key env).store.queueSound := by
  unfold State.placeEnvelope
  split
  · exact sound
  · exact queueSound_arbitrate (s := s.setStore _) (queueSound_placeInto sound _ key env)

end port

/-! ## Journals, dresses and parts -/

section journals
variable {s : State}

theorem store_closeTeach (s : State) (n : Wheelhead) (j : Journal) (counted : Bool) :
    (s.closeTeach n j counted).store = s.store := by
  unfold State.closeTeach
  split <;> rfl

theorem store_cancelTeach (s : State) (tool : Tool) : (s.cancelTeach tool).store = s.store := by
  unfold State.cancelTeach
  split <;> rfl

/-- A dress touches nothing of the envelope store (R67). -/
theorem store_closeDress (s : State) (n : Wheelhead) (d : Dress) (reported : Option Nat) :
    (s.closeDress n d reported).store = s.store := by
  unfold State.closeDress
  dsimp only
  rw [State.setActivity_store, (ToolsMove.reportDress _ _ _ _).store, (ToolsMove.noticeCharge _ _ _).store,
    (ToolsMove.noticeDressed _ _ _).store, (ToolsMove.send _ _).store, (ToolsMove.dressWheel _ _ _ _ _).store]
  split
  · rw [(ToolsMove.setBroken _ _).store, (ToolsMove.chargeTool _ _ _).store, (ToolsMove.chargeTool _ _ _).store,
      State.setCounter_store]
  · rw [(ToolsMove.chargeTool _ _ _).store, (ToolsMove.chargeTool _ _ _).store, State.setCounter_store]

theorem store_faultChannel (s : State) (n : Wheelhead) : (s.faultChannel n).store = s.store := by
  unfold State.faultChannel
  split
  · rfl
  · exact ((SampleKeeps.refl s).holdChannel _ _ _).store
  · rfl
  · rfl
  · rfl

theorem store_positionFault (s : State) (n : Wheelhead) (pair : PhasePair) :
    (s.positionFault n pair).store = s.store :=
  (store_faultChannel _ _).trans (ToolsMove.clearContacts _ _).store

variable (sound : s.store.queueSound)
include sound

theorem queueSound_arm (n : Wheelhead) (e : OpEntry) : (s.arm n e).store.queueSound := by
  have lookedUp : (Arming.armed s n e).store.queueSound := by
    show (Arming.lookedUp s n e).queueSound
    unfold Arming.lookedUp
    split
    · exact sound
    · exact queueSound_lookup sound _
  rw [Arming.arm_eq]
  split
  · exact lookedUp
  · exact queueSound_arbitrate lookedUp

theorem queueSound_beginJournal (n : Wheelhead) (e : OpEntry) : (s.beginJournal n e).store.queueSound :=
  queueSound_prefetchFirst (queueSound_arm sound n e) _ _ _

theorem queueSound_beginPart (variant : Nat) : (s.beginPart variant).store.queueSound :=
  queueSound_prefetchFirst (queueSound_prefetchFirst (s := s.setSister { s.sister with part := some variant }) sound _ _ _)
    _ _ _

theorem queueSound_completeTeach (n : Wheelhead) : (s.completeTeach n).store.queueSound := by
  unfold State.completeTeach
  split
  · split
    · exact queueSound_placeEnvelope (s := s.setTeach _ _) sound _ _
    · exact sound
  · exact sound

theorem queueSound_closeJournal (n : Wheelhead) (j : Journal) (overlong : Bool) (after : Activity) :
    (s.closeJournal n j overlong after).store.queueSound := by
  have closed (counted : Bool) (record : GrindRecord) (c : Counter) (charge : Nat) :
      ((((s.setCounter n c).chargeTool j.slot charge).closeTeach n j counted).send (.grindRecord record)).store.queueSound := by
    rw [(ToolsMove.send _ _).store, store_closeTeach, (ToolsMove.chargeTool _ _ _).store]
    exact sound
  unfold State.closeJournal
  dsimp only
  rw [(ToolsMove.afterCharge _ _ _ _ _).store, State.setActivity_store]
  split
  · exact queueSound_completeTeach (closed _ _ _ _) n
  · exact closed _ _ _ _

end journals

/-! ## Requests -/

/-- What a refusal keeps and the effect of a request keeps, its answer keeps (R181). -/
theorem answer_keeps {α : Type} {P : State → Prop} {s : State} {code : Byte} {checked : Except Reason α}
    {effect : α → State} (refused : ∀ reason, P (s.refuse code reason)) (taken : ∀ x, P (effect x)) :
    P (s.answer code checked effect) := by
  cases checked with
  | error reason => exact refused reason
  | ok x => exact taken x

section requests
variable {s : State} (sound : s.store.queueSound)
include sound

/-- The end of a step leaves the queue sound. -/
theorem queueSound_finish (before : State) : (before.finish s).store.queueSound := by
  rw [(ToolsMove.finish before s).store]
  exact sound

theorem queueSound_handleStart : s.handleStart.store.queueSound := by
  unfold State.handleStart
  split <;> exact sound

theorem queueSound_handleRestart : s.handleRestart.store.queueSound := by
  unfold State.handleRestart
  split
  · exact sound
  · have told (entries : List OpEntry) (u : State) :
        (entries.foldl (fun t e => t.sendSwap (s.swapFor .opsBack e.lender [e])) u).store = u.store :=
      (State.Reports.foldl (fun _ _ => State.Reports.done.sendSwap _) entries .done).only.store
    rw [told]
    exact queueSound_sublist sound (List.nil_sublist _)

theorem queueSound_mountTool (slot : Fin 8) (tool : Tool) : (s.mountTool slot tool).store.queueSound := by
  show (((s.setTool slot (some tool)).sendToolNotice slot).reportMount slot tool).store.queueSound
  rw [(State.Reports.done.reportMount slot tool).only.store]
  exact sound

theorem queueSound_dismountTool (slot : Fin 8) (tool : Tool) : (s.dismountTool slot tool).store.queueSound := by
  show ((s.takeTrigger slot tool.group tool.seat .dismount).cancelTeach tool).store.queueSound
  rw [store_cancelTeach, (State.Reports.done.takeTrigger slot tool.group tool.seat .dismount).only.store]
  exact sound

theorem queueSound_endPart : s.endPart.store.queueSound := by
  have departed : ((s.setSister { s.sister with part := none }).departMarked fun e => e.status != .handing).store =
      s.store := (State.Reports.done.departMarked _).only.store
  unfold State.endPart
  dsimp only
  split
  · rw [State.markStatus_store, departed]
    exact sound
  · rw [departed]
    exact sound

theorem queueSound_handleJournalBegin (variant journal : Byte) :
    (s.handleJournalBegin variant journal).store.queueSound := by
  refine answer_keeps (P := fun t => t.store.queueSound) (fun _ => sound) fun op => ?_
  split
  · exact sound
  · split
    · split <;> exact sound
    · split
      · exact sound
      · exact queueSound_beginJournal sound _ _

theorem queueSound_handleJournalEnd (wheelhead : Byte) : (s.handleJournalEnd wheelhead).store.queueSound := by
  unfold State.handleJournalEnd
  split
  · exact sound
  · split
    · exact sound
    · split
      · exact queueSound_closeJournal sound _ _ _ _
      · exact sound

theorem queueSound_handleDressEnd (wheelhead : Byte) (depth : BitVec 16) :
    (s.handleDressEnd wheelhead depth).store.queueSound := by
  unfold State.handleDressEnd
  split
  · exact sound
  · split
    · exact sound
    · split
      · rw [show ∀ u : State, (u.accept 0x0D).store = u.store from fun _ => rfl, store_closeDress]
        exact sound
      · exact sound

theorem queueSound_handleHoldRelease (wheelhead : Byte) : (s.handleHoldRelease wheelhead).store.queueSound := by
  unfold State.handleHoldRelease
  split
  · exact sound
  · split
    · exact sound
    · split <;> exact sound

theorem queueSound_handleQueryTool (slot : Byte) : (s.handleQueryTool slot).store.queueSound := by
  unfold State.handleQueryTool
  split <;> exact sound

/-- Every request leaves the queue sound. -/
theorem queueSound_handleRequest (i : Instr) : (s.handleRequest i).store.queueSound := by
  have answered {α : Type} {code : Byte} {checked : Except Reason α} {effect : α → State}
      (taken : ∀ x, (effect x).store.queueSound) : (s.answer code checked effect).store.queueSound :=
    answer_keeps (P := fun t => t.store.queueSound) (fun _ => sound) taken
  cases i with
  | configure | dressBegin | teach => exact answered fun _ => sound
  | assign =>
    exact queueSound_finish (s := s.handleAssign _ _ _ _ _ _ _) (answered fun _ => sound) s
  | unassign => exact queueSound_finish (s := s.handleUnassign _ _) (answered fun _ => sound) s
  | start => exact queueSound_finish (queueSound_handleStart sound) s
  | restart => exact queueSound_handleRestart sound
  | mount =>
    exact queueSound_finish (s := s.handleMount _ _ _ _ _ _ _) (answered fun _ => queueSound_mountTool sound _ _) s
  | dismount => exact queueSound_finish (s := s.handleDismount _) (answered fun _ => queueSound_dismountTool sound _ _) s
  | partBegin => exact answered fun _ => queueSound_beginPart sound _
  | partEnd => exact queueSound_finish (s := s.handlePartEnd) (answered fun _ => queueSound_endPart sound) s
  | journalBegin => exact queueSound_handleJournalBegin sound _ _
  | journalEnd => exact queueSound_finish (queueSound_handleJournalEnd sound _) s
  | dressEnd => exact queueSound_finish (queueSound_handleDressEnd sound _ _) s
  | holdRelease => exact queueSound_handleHoldRelease sound _
  | queryTool => exact queueSound_handleQueryTool sound _
  | _ => exact sound

/-- The taking of messages leaves the queue sound (R175). -/
theorem queueSound_serve : s.serve.store.queueSound :=
  State.takeMessages_keeps (P := fun t => t.store.queueSound)
    (fun t _ kept _ _ => queueSound_handleRequest (s := t.popInbound) kept _) _ s sound

theorem queueSound_arrive (message : List Byte) : (s.arrive message).store.queueSound := by
  refine queueSound_serve (s := s.offerInbound message) ?_
  unfold State.offerInbound
  split <;> exact sound

theorem queueSound_messageSent : s.messageSent.store.queueSound := queueSound_serve (s := s.setPort _) sound

theorem queueSound_endSending (clocks : Nat) : (s.endSending clocks).store.queueSound := by
  unfold State.endSending
  split
  · split
    · exact queueSound_messageSent sound
    · exact sound
  · exact sound

end requests

/-! ## The link -/

theorem store_updateLine (s : State) (line : LineId) (l : Line) (good otherGood otherUp : Bool) :
    (s.updateLine line l good otherGood otherUp).store = s.store := by
  unfold State.updateLine
  dsimp only
  split
  · rfl
  · split <;> rfl

theorem store_acceptCopy (s : State) (c : GoodCopy) : (s.acceptCopy c).store = s.store := by
  unfold State.acceptCopy
  split
  · unfold State.markDuplicate
    dsimp only
    split <;> rfl
  · split
    · exact (State.Reports.done.deliver _ _).only.store
    · rfl

theorem store_giveUp (s : State) (body : FrameBody) : (s.giveUp body).store = s.store := by
  unfold State.giveUp
  split
  · rfl
  · exact (State.Reports.done.reportDiscarded _).only.store

theorem store_removePeer (s : State) (p : Peer) : (s.removePeer p).store = s.store := by
  unfold State.removePeer
  dsimp only
  split
  · rfl
  · exact (State.Reports.done.takeHome _ _).only.store

theorem queueSound_takeFrame {s : State} (sound : s.store.queueSound) (a b : LineCopy) :
    (s.takeFrame a b).store.queueSound := by
  unfold State.takeFrame
  split
  · exact sound
  · split
    · exact sound
    · rename_i f _
      have lines (x y : LineCopy) : ((s.setLink { s.link with begun := s.link.begun.erase f }).updateLines
          (judgeCopy x).isSome (judgeCopy y).isSome).store.queueSound := by
        rw [State.updateLines, store_updateLine, store_updateLine]
        exact sound
      dsimp only
      split
      · refine queueSound_finish ?_ s
        rw [store_acceptCopy]
        exact lines _ _
      · exact queueSound_finish (lines _ _) s

/-! ## The commands -/

/-- The fetch queue is sound in the state to which the block goes on. -/
def soundAfter (o : Host.Outcome State Fault Refusal) : Prop := ∀ t, o = .next t → t.store.queueSound

theorem soundAfter_next {t : State} (sound : t.store.queueSound) : soundAfter (.next t) := by
  rintro _ ⟨⟩
  exact sound

section commands
variable {s : State} (sound : s.store.queueSound)
include sound

theorem soundAfter_unknownRequestCode (message : List Byte) : soundAfter (execUnknownRequestCode message s) := by
  unfold execUnknownRequestCode
  split
  · exact soundAfter_next sound
  · exact soundAfter_next (queueSound_arrive sound message)

theorem soundAfter_transactionStart : soundAfter (execTransactionStart s) := by
  unfold execTransactionStart
  split
  · split <;> exact soundAfter_next sound
  · exact soundAfter_next sound

theorem soundAfter_transactionEnd (bits : List Bool) : soundAfter (execTransactionEnd bits s) := by
  have ended := queueSound_endSending sound bits.length
  have arrived (p : Port) (message : List Byte) : (((s.endSending bits.length).setPort p).arrive message).store.queueSound :=
    queueSound_arrive (s := (s.endSending bits.length).setPort p) ended message
  unfold execTransactionEnd
  split
  · exact soundAfter_next sound
  · exact soundAfter_next sound
  · refine soundAfter_next ?_
    split
    · exact arrived _ _
    · exact ended

theorem soundAfter_outboundMessageSent : soundAfter (execOutboundMessageSent s) := by
  unfold execOutboundMessageSent
  split
  · exact soundAfter_next (queueSound_messageSent sound)
  · exact soundAfter_next sound

theorem soundAfter_quadratureTransition (n : Wheelhead) (pair : PhasePair) :
    soundAfter (execQuadratureTransition n pair s) := by
  unfold execQuadratureTransition
  dsimp only
  split
  · exact soundAfter_next sound
  · split
    · exact soundAfter_next sound
    · refine soundAfter_next ?_
      rw [store_positionFault]
      exact sound

theorem soundAfter_sampleInstant : soundAfter (exec .sampleInstant s) := by
  have keeps := (((SampleKeeps.refl (atInstant s)).takeSample .w0 (instantSample s .w0)).takeSample .w1
    (instantSample s .w1)).finish s
  rw [exec_sampleInstant]
  refine soundAfter_next ?_
  rw [keeps.store]
  exact sound

theorem soundAfter_overlongExpiry (n : Wheelhead) : soundAfter (execOverlongExpiry n s) := by
  unfold execOverlongExpiry
  split
  · exact soundAfter_next (queueSound_finish (queueSound_closeJournal (s := s.reach _) sound _ _ _ _) s)
  · exact soundAfter_next sound

theorem soundAfter_dressOverlongExpiry (n : Wheelhead) : soundAfter (execDressOverlongExpiry n s) := by
  unfold execDressOverlongExpiry
  split
  · refine soundAfter_next (queueSound_finish ?_ s)
    rw [store_closeDress]
    exact sound
  · exact soundAfter_next sound

theorem soundAfter_fetchReadEnd (bytes : List Byte) : soundAfter (execFetchReadEnd bytes s) := by
  unfold execFetchReadEnd
  split
  · exact soundAfter_next (queueSound_endRead sound _ _ _ _ _)
  · exact soundAfter_next sound

theorem soundAfter_writeEnd (readBack : List Byte) : soundAfter (execWriteEnd readBack s) := by
  unfold execWriteEnd
  split
  · exact soundAfter_next (queueSound_endWrite sound _ _ _)
  · exact soundAfter_next sound

theorem soundAfter_writeStatusTimeout : soundAfter (execWriteStatusTimeout s) := by
  unfold execWriteStatusTimeout
  split
  · exact soundAfter_next (queueSound_endWrite sound _ _ _)
  · exact soundAfter_next sound

theorem soundAfter_frameBegin (wait : Nat) : soundAfter (execFrameBegin wait s) := by
  unfold execFrameBegin
  split
  · exact soundAfter_next sound
  · dsimp only
    split <;> exact soundAfter_next sound

theorem soundAfter_sendingComplete : soundAfter (execSendingComplete s) := by
  unfold execSendingComplete
  split
  · exact soundAfter_next sound
  · refine soundAfter_next (queueSound_finish ?_ s)
    split
    · exact sound
    · rw [(State.Reports.done.reportSent _).only.store]
      exact sound

theorem soundAfter_collision (line : LineId) : soundAfter (execCollision line s) := by
  unfold execCollision
  split
  · exact soundAfter_next sound
  · split
    · exact soundAfter_next sound
    · split
      · exact soundAfter_next (queueSound_finish (s := s.setLink s.link.stopSending) sound s)
      · refine soundAfter_next (queueSound_finish ?_ s)
        rw [store_giveUp]
        exact sound

theorem soundAfter_lineEdge (line : LineId) (edge : Edge) : soundAfter (execLineEdge line edge s) := by
  unfold execLineEdge
  split <;> exact soundAfter_next sound

theorem soundAfter_silenceTimerExpiry : soundAfter (execSilenceTimerExpiry s) := by
  unfold execSilenceTimerExpiry
  split <;> exact soundAfter_next sound

theorem soundAfter_peerStale (station : Nat) : soundAfter (execPeerStale station s) := by
  unfold execPeerStale
  split
  · refine soundAfter_next ?_
    split <;> exact sound
  · exact soundAfter_next sound

theorem soundAfter_peerRemoved (station : Nat) : soundAfter (execPeerRemoved station s) := by
  unfold execPeerRemoved
  split
  · refine soundAfter_next (queueSound_finish ?_ s)
    rw [store_removePeer]
    exact sound
  · exact soundAfter_next sound

theorem soundAfter_statusPeriodExpiry : soundAfter (execStatusPeriodExpiry s) := by
  unfold execStatusPeriodExpiry
  split
  · split <;> exact soundAfter_next sound
  · exact soundAfter_next sound

theorem soundAfter_statusChangeOffer : soundAfter (execStatusChangeOffer s) := by
  unfold execStatusChangeOffer
  split
  · split <;> exact soundAfter_next sound
  · exact soundAfter_next sound

theorem soundAfter_windowExpiry (group : Nat) : soundAfter (execWindowExpiry group s) := by
  unfold execWindowExpiry
  split
  · split
    · refine soundAfter_next (queueSound_finish ?_ s)
      rw [(State.Reports.done.expireWindow _).only.store]
      exact sound
    · exact soundAfter_next sound
  · exact soundAfter_next sound

theorem soundAfter_awardTimerExpiry (group : Nat) : soundAfter (execAwardTimerExpiry group s) := by
  unfold execAwardTimerExpiry
  split
  · split
    · refine soundAfter_next (queueSound_finish ?_ s)
      rw [(State.Reports.done.endRound _).only.store]
      exact sound
    · exact soundAfter_next sound
  · exact soundAfter_next sound

theorem soundAfter_reservationExpiry (slot : Fin 8) : soundAfter (execReservationExpiry slot s) := by
  unfold execReservationExpiry
  split
  · refine soundAfter_next (queueSound_finish ?_ s)
    rw [(State.Reports.done.releaseReservation _).only.store]
    exact sound
  · exact soundAfter_next sound

/-- Every command leaves the queue sound: a request is the arrival of its message, a frame row the taking of a frame, and every
other command has its own lemma above. -/
theorem soundAfter_exec (i : Instr) : soundAfter (exec i s) := by
  cases i with
  | unknownRequestCode => exact soundAfter_unknownRequestCode sound _
  | transactionStart => exact soundAfter_transactionStart sound
  | transactionEnd => exact soundAfter_transactionEnd sound _
  | outboundMessageSent => exact soundAfter_outboundMessageSent sound
  | fullReset => exact soundAfter_next queueSound_reset
  | quadratureTransition => exact soundAfter_quadratureTransition sound _ _
  | sensorFrame => exact soundAfter_next sound
  | sampleInstant => exact soundAfter_sampleInstant sound
  | overlongExpiry => exact soundAfter_overlongExpiry sound _
  | dressOverlongExpiry => exact soundAfter_dressOverlongExpiry sound _
  | fetchReadEnd => exact soundAfter_fetchReadEnd sound _
  | writeEnd => exact soundAfter_writeEnd sound _
  | writeStatusTimeout => exact soundAfter_writeStatusTimeout sound
  | frameBegin => exact soundAfter_frameBegin sound _
  | sendingComplete => exact soundAfter_sendingComplete sound
  | collision => exact soundAfter_collision sound _
  | statusReceived | callReceived | offerReceived | awardReceived | takenReceived | declineReceived | releaseReceived
  | frameDropped | duplicateStation => exact soundAfter_next (queueSound_takeFrame sound _ _)
  | silenceTimerExpiry => exact soundAfter_silenceTimerExpiry sound
  | peerStale => exact soundAfter_peerStale sound _
  | peerRemoved => exact soundAfter_peerRemoved sound _
  | statusPeriodExpiry => exact soundAfter_statusPeriodExpiry sound
  | statusChangeOffer => exact soundAfter_statusChangeOffer sound
  | windowExpiry => exact soundAfter_windowExpiry sound _
  | awardTimerExpiry => exact soundAfter_awardTimerExpiry sound _
  | reservationExpiry => exact soundAfter_reservationExpiry sound _
  | lineEdge => exact soundAfter_lineEdge sound _ _
  | configure | start | restart | mount | dismount | assign | unassign | partBegin | partEnd | journalBegin | journalEnd
  | dressBegin | dressEnd | holdRelease | teach | queryTool | queryStation => exact soundAfter_next (queueSound_arrive sound _)

end commands

end Sys2Proof.Machine.FetchQueue

open Sys2Proof Sys2Proof.Machine Sys2Proof.Machine.FetchQueue

/-- Settles O41: what an operation of the envelope store does to the queue is said once for each, and no other operation touches
the store; the step is then taken command by command. -/
theorem fetchQueueStaysSound : Obligations.FetchQueueStaysSound := by
  intro s t sound steps
  unfold step at steps
  split at steps
  · cases steps
    exact sound
  · rename_i c rest _
    exact soundAfter_exec (s := { s with pending := rest }) sound c t steps
end

section
/-! PROOF. The flash port (R77, R85 to R91, R93, R94, R103, R104): the work an idle port takes, and how a read and a write end. -/

namespace Sys2Proof.Machine.FlashOutcomes
open Sys2Proof Sys2Proof.Machine Sys2Proof.Machine.Arming

variable {s : State}

/-! ## The work of an idle port (R85, R86, R90) -/

section arbiter
variable (idle : s.store.port = .idle)
include idle

/-- With nothing waiting the port stays idle. -/
theorem arbitrate_none (queue : s.store.queue = []) (writes : s.store.pendingWrites = []) : s.arbitrate = s := by
  simp [State.arbitrate, idle, queue, writes]

/-- The front request is fetched into the slot chosen, at once when it is a demand and else with no write waiting (R85, R86). -/
theorem arbitrate_fetch {key : Nat} {kind : FetchKind} {rest : List FetchRequest} {slot : Fin 24}
    (queue : s.store.queue = ⟨key, kind⟩ :: rest) (first : kind = .demand ∨ s.store.pendingWrites = [])
    (chosen : s.chooseSlot = some slot) :
    s.arbitrate = { s with store := { s.store with
      slots := s.store.slots.set slot (.filling key), lru := s.store.lru.filter (fun k => k != slot) ++ [slot]
      queue := rest, port := .fetching slot key 0 false } } := by
  have starts : s.arbitrate = s.startFetch ⟨key, kind⟩ rest := by
    cases kind with
    | demand => simp [State.arbitrate, idle, queue]
    | prefetch =>
      have none : s.store.pendingWrites = [] := first.resolve_left nofun
      simp [State.arbitrate, idle, queue, none]
  rw [starts, State.startFetch, chosen]
  rfl

/-- The write that has waited longest starts when no demand is at the front (R85, R90). -/
theorem arbitrate_write {slot : Fin 24} {waiting : List (Fin 24)} {key attempts : Nat} {env : Envelope}
    (writes : s.store.pendingWrites = slot :: waiting) (held : s.store.slots.get slot = .writing key env attempts)
    (noDemand : ∀ r, s.store.queue.head? = some r → r.kind = .prefetch) :
    s.arbitrate = { s with store := { s.store with
      port := .writing slot key (recordBytes key env) false, pendingWrites := waiting } } := by
  have starts : s.arbitrate = s.startWrite slot waiting := by
    cases queue : s.store.queue with
    | nil => simp [State.arbitrate, idle, queue, writes]
    | cons r rest =>
      obtain ⟨asked, kind⟩ := r
      obtain rfl : kind = .prefetch := noDemand ⟨asked, kind⟩ (by rw [queue]; rfl)
      simp [State.arbitrate, idle, queue, writes]
  rw [starts, State.startWrite, held]
  rfl

end arbiter

/-! ## A notice of the outcome (R93) -/

/-- The arbiter reads nothing of the machine port. -/
theorem arbitrate_setPort (s : State) (p : Port) : (s.setPort p).arbitrate = s.arbitrate.setPort p := by
  have chosen : (s.setPort p).chooseSlot = s.chooseSlot := rfl
  have fetch (r : FetchRequest) (rest : List FetchRequest) : (s.setPort p).startFetch r rest = (s.startFetch r rest).setPort p := by
    unfold State.startFetch
    rw [chosen]
    split <;> rfl
  have write (slot : Fin 24) (rest : List (Fin 24)) : (s.setPort p).startWrite slot rest = (s.startWrite slot rest).setPort p := by
    simp only [State.startWrite, State.setPort_store]
    split <;> rfl
  simp only [State.arbitrate, State.setPort_store]
  split
  · split
    · exact fetch _ _
    · exact write _ _
    · exact fetch _ _
    · rfl
  · rfl

/-- A STORE NOTICE queued before the arbiter acts is told, and changes nothing else (R93). -/
theorem arbitrate_sendStoreNotice (s : State) (n : StoreNotice) :
    s.arbitrate.messagesOnly (s.sendStoreNotice n).arbitrate ∧
      (s.sendStoreNotice n).arbitrate.tellsNotice (.storeNotice n) := by
  have after : (s.sendStoreNotice n).arbitrate = s.arbitrate.setPort (s.port.place (.storeNotice n)) := arbitrate_setPort s _
  have port : s.arbitrate.port = s.port := by rw [storeOnly_arbitrate s]; rfl
  rw [after]
  constructor
  · have sides : s.arbitrate.port.sameSides (s.port.place (.storeNotice n)) := port ▸ Port.sameSides_place _ _
    exact congrArg s.arbitrate.setPort sides
  · exact (Port.Told.place s.port (m := .storeNotice n) rfl).2

/-! ## The end of a read (R87 to R91, R94) -/

section reads
variable {bytes : List Byte} {slot : Fin 24} {key reads : Nat} {cutShort : Bool} {why : BadRead}

theorem exec_fetchReadEnd (port : s.store.port = .fetching slot key reads cutShort) :
    exec (.fetchReadEnd bytes) s = .next (s.endRead slot key reads cutShort bytes) := by
  simp [exec, execFetchReadEnd, port]

/-- A bad read is read again below the third (R88). -/
theorem endRead_again (bad : judgeRead key bytes = .bad why) (few : reads < 2) :
    s.endRead slot key reads false bytes =
      { s with store := { s.store with port := .fetching slot key (reads + 1) false } } := by
  have below : reads + 1 < 3 := Nat.succ_lt_succ few
  simp only [State.endRead, bad, below, if_true, Bool.false_eq_true, if_false]
  rfl

/-- A good read of a FILLING slot makes it READY (R87). -/
theorem endRead_good {env : Envelope} (filling : s.store.slots.get slot = .filling key)
    (good : judgeRead key bytes = .good env) :
    s.endRead slot key reads cutShort bytes = { s with store := { s.store with
      slots := s.store.slots.set slot (.ready key env), port := .idle
      lru := s.store.lru.filter (fun k => k != slot) ++ [slot] } }.arbitrate := by
  simp only [State.endRead, filling, good, beq_self_eq_true, if_true]
  rfl

/-- An erased record makes the FILLING slot ABSENT (R87). -/
theorem endRead_erased (filling : s.store.slots.get slot = .filling key) (erased : judgeRead key bytes = .erased) :
    s.endRead slot key reads cutShort bytes = { s with store := { s.store with
      slots := s.store.slots.set slot (.absent key), port := .idle
      lru := s.store.lru.filter (fun k => k != slot) ++ [slot] } }.arbitrate := by
  simp only [State.endRead, filling, erased, beq_self_eq_true, if_true]
  rfl

/-- The store once the fetch into a slot has come to nothing: the port idle and the slot EMPTY (R88, R94). -/
def emptied (x : Store) (slot : Fin 24) : Store :=
  { x with slots := x.slots.set slot .empty, port := .idle, lru := x.lru.filter (fun k => k != slot) }

/-- A bad read of a fetch cut short empties its slot, and tells nothing (R94; log entry 30). -/
theorem endRead_cutShort (filling : s.store.slots.get slot = .filling key) (bad : judgeRead key bytes = .bad why) :
    s.endRead slot key reads true bytes = { s with store := emptied s.store slot }.arbitrate := by
  simp only [State.endRead, filling, bad, beq_self_eq_true, if_true]
  rfl

/-- The third bad read empties the slot, marks the key bad and is told (R88, R89). -/
theorem endRead_third (filling : s.store.slots.get slot = .filling key) (bad : judgeRead key bytes = .bad why)
    (third : 2 ≤ reads) :
    s.endRead slot key reads false bytes = (State.sendStoreNotice
      { s with store := { emptied s.store slot with badKeys := s.store.badKeys ||| BitVec.twoPow 256 key } }
      (.badRecord key slot why)).arbitrate := by
  have last : ¬ reads + 1 < 3 := by omega
  simp only [State.endRead, filling, bad, beq_self_eq_true, if_true, Bool.false_eq_true, if_false, last]
  rfl

/-- The last read of a slot that a teach result has reached is discarded (R91). -/
theorem endRead_discarded (reached : s.store.slots.get slot ≠ .filling key)
    (last : ∀ why, judgeRead key bytes = .bad why → cutShort = true ∨ 2 ≤ reads) :
    s.endRead slot key reads cutShort bytes = { s with store := { s.store with port := .idle } }.arbitrate := by
  have other : (s.store.slots.get slot == .filling key) = false := beq_eq_false_iff_ne.mpr reached
  cases judged : judgeRead key bytes with
  | good env => simp only [State.endRead, other, judged, Bool.false_eq_true, if_false]; rfl
  | erased => simp only [State.endRead, other, judged, Bool.false_eq_true, if_false]; rfl
  | bad why =>
    cases cutShort with
    | true => simp only [State.endRead, other, judged, Bool.false_eq_true, if_true, if_false]; rfl
    | false =>
      have third : 2 ≤ reads := (last why judged).resolve_left nofun
      have done : ¬ reads + 1 < 3 := by omega
      simp only [State.endRead, other, judged, Bool.false_eq_true, if_false, done]
      rfl

end reads

/-! ## The end of a write (R77, R103, R104) -/

section writes
variable {i : Instr} {readBack record : List Byte} {slot : Fin 24} {key attempts : Nat} {env : Envelope} {discard good : Bool}

theorem exec_writeEnd (port : s.store.port = .writing slot key record discard) :
    exec (.writeEnd readBack) s = .next (s.endWrite slot discard (readBack == record)) := by
  simp [exec, execWriteEnd, port]

theorem exec_writeStatusTimeout (port : s.store.port = .writing slot key record discard) :
    exec .writeStatusTimeout s = .next (s.endWrite slot discard false) := by
  simp [exec, execWriteStatusTimeout, port]

/-- The outcome of a write that a newer placement has overtaken moves no slot (R103). -/
theorem endWrite_discarded : s.endWrite slot true good = { s with store := { s.store with port := .idle } }.arbitrate := rfl

variable (held : s.store.slots.get slot = .writing key env attempts)
include held

/-- A good compare leaves the slot READY (R104). -/
theorem endWrite_good : s.endWrite slot false true = { s with store := { s.store with
    port := .idle, slots := s.store.slots.set slot (.ready key env) } }.arbitrate := by
  simp only [State.endWrite, held, if_true, Bool.false_eq_true, if_false]
  rfl

/-- The first failed compare puts the slot back among the pending writes (R104). -/
theorem endWrite_again (first : attempts = 0) : s.endWrite slot false false = { s with store := { s.store with
    port := .idle, slots := s.store.slots.set slot (.writing key env 1)
    pendingWrites := s.store.pendingWrites ++ [slot] } }.arbitrate := by
  simp only [State.endWrite, held, first, if_true, Bool.false_eq_true, if_false]
  rfl

/-- The second failed compare leaves the slot UNSAVED, and is told (R104). -/
theorem endWrite_unsaved (second : attempts ≠ 0) : s.endWrite slot false false = (State.sendStoreNotice
    { s with store := { s.store with port := .idle, slots := s.store.slots.set slot (.unsaved key env) } }
    (.unsaved key slot)).arbitrate := by
  simp only [State.endWrite, held, second, Bool.false_eq_true, if_false]
  rfl

end writes

end Sys2Proof.Machine.FlashOutcomes

open Sys2Proof Sys2Proof.Machine Sys2Proof.Machine.FlashOutcomes

/-- Settles O38: the arbiter by the work that waits, and the end of a read by its judgement, the reads made and the state of its
slot. -/
theorem fetchReadEnds : Obligations.FetchReadEnds := by
  constructor
  · intro s
    exact ⟨State.arbitrate_busy, fun idle => ⟨arbitrate_none idle,
      fun _ _ _ _ queue first chosen => arbitrate_fetch idle queue first chosen,
      fun _ _ _ _ _ writes held noDemand => arbitrate_write idle writes held noDemand⟩⟩
  · intro bytes slot key reads cutShort s port
    rw [exec_fetchReadEnd port]
    refine ⟨?again, fun filling => ⟨fun env good => congrArg _ (endRead_good filling good),
      fun erased => congrArg _ (endRead_erased filling erased), fun why bad => ⟨?cutShort, ?third⟩⟩,
      fun reached last => congrArg _ (endRead_discarded reached last)⟩
    case again =>
      rintro why bad rfl few
      exact congrArg _ (endRead_again bad few)
    case cutShort =>
      rintro rfl
      exact congrArg _ (endRead_cutShort filling bad)
    case third =>
      rintro rfl third
      exact ⟨_, congrArg _ (endRead_third filling bad third), arbitrate_sendStoreNotice _ _⟩

/-- Settles O39: the three ends of a write by its outcome and the attempts made, and the work the idle port takes by the
arbiter. -/
theorem writeEnds : Obligations.WriteEnds := by
  intro readBack slot key record env attempts s held
  constructor
  · intro port i ends
    have discarded : exec i s = .next { s with store := { s.store with port := .idle } }.arbitrate := by
      rcases ends with rfl | rfl
      · exact exec_writeEnd port
      · exact exec_writeStatusTimeout port
    refine ⟨discarded, fun queue writes => discarded.trans (congrArg _ ?_)⟩
    exact arbitrate_write (s := { s with store := { s.store with port := .idle } }) rfl writes held (by simp [queue])
  · intro port
    constructor
    · rintro rfl
      rw [exec_writeEnd port, beq_self_eq_true, endWrite_good held]
    · intro i ends
      have failed : exec i s = .next (s.endWrite slot false false) := by
        rcases ends with ⟨rfl, differs⟩ | rfl
        · rw [exec_writeEnd port, beq_eq_false_iff_ne.mpr differs]
        · exact exec_writeStatusTimeout port
      constructor
      · intro first
        have again := failed.trans (congrArg _ (endWrite_again held first))
        refine ⟨again, fun queue writes => again.trans (congrArg _ ?_)⟩
        have slots : (s.store.slots.set slot (.writing key env 1)).get slot = .writing key env 1 := vector_get_set_same _ _ _
        rw [arbitrate_write (slot := slot) (waiting := []) rfl (by simp [writes]) slots (by simp [queue])]
        simp [writes]
      · intro second
        exact ⟨_, failed.trans (congrArg _ (endWrite_unsaved held second)), arbitrate_sendStoreNotice _ _⟩
end

section
/-! PROOF. PART BEGIN (R84, R86, R114): its refusals, and what the two prefetches make of the store. -/

namespace Sys2Proof.Machine.PartBegin
open Sys2Proof Sys2Proof.Machine Sys2Proof.Machine.Arming Sys2Proof.Machine.FlashOutcomes

variable {s t : State}

/-! ## The answer -/

/-- A request that is taken now, and refused when it is handled, is refused with nothing else changed (R175, R181). -/
theorem refuses_of_handled {i : Instr} {code : Byte} {reason : Reason} (taken : s.takesNow i = true)
    (arrives : exec i s = .next (s.arrive (requestBytes i))) (reads : decodeRequest (requestBytes i) = some i)
    (handled : s.taking.handleRequest i = s.taking.refuse code reason) : s.refuses i code reason := by
  rw [State.refuses, arrives, Restarting.next_arrive_taken taken reads, handled]
  exact congrArg _ (State.send_reply_taking s _ _ (State.takesNow_room taken))

section checks
variable {variant : Byte}

theorem checkPartBegin_wrongState (off : s.station ≠ .running) : s.checkPartBegin variant = .error .wrongState := if_pos off

theorem checkPartBegin_badValue (running : s.station = .running) (outside : 8 ≤ variant.toNat) :
    s.checkPartBegin variant = .error .badValue := by simp [State.checkPartBegin, running, outside]

theorem checkPartBegin_busy (running : s.station = .running) (named : variant.toNat < 8) (under : s.sister.part ≠ none) :
    s.checkPartBegin variant = .error .busy := by
  simp [State.checkPartBegin, running, Nat.not_le.mpr named, Option.isSome_iff_ne_none, under]

theorem checkPartBegin_ok (running : s.station = .running) (named : variant.toNat < 8) (free : s.sister.part = none) :
    s.checkPartBegin variant = .ok variant.toNat := by
  simp [State.checkPartBegin, running, Nat.not_le.mpr named, free]

/-- A PART BEGIN that fails a check is refused with it. -/
theorem refuses_partBegin {reason : Reason} (taken : s.takesNow (.partBegin variant) = true)
    (failed : s.taking.checkPartBegin variant = .error reason) : s.refuses (.partBegin variant) 0x08 reason := by
  refine refuses_of_handled taken rfl rfl ?_
  show s.taking.handlePartBegin variant = _
  rw [State.handlePartBegin, failed]
  rfl

end checks

/-! ## The prefetches -/

/-- Which entries may be prefetched depends on the tools alone (R110, R114). -/
theorem prefetchable_congr (tools : t.tools = s.tools) : t.prefetchable = s.prefetchable := by
  funext variant n e
  simp only [State.prefetchable, State.wheelheadOfSlot, State.toolIf, tools]

/-- With no candidate nothing is offered. -/
theorem prefetchFirst_none {variant : Nat} {n : Wheelhead} {entries : List OpEntry}
    (none : entries.find? (s.prefetchable variant n) = none) : s.prefetchFirst variant n entries = s := by
  simp [State.prefetchFirst, none]

/-- The store as the fetch of a key starts in a slot (R86). -/
def fetchStarted (x : Store) (slot : Fin 24) (key : Nat) : Store :=
  { x with
    slots := x.slots.set slot (.filling key), lru := x.lru.filter (fun k => k != slot) ++ [slot]
    port := .fetching slot key 0 false }

/-- A prefetch of a new key starts its fetch at once in an idle store with no other work (R84, R86). -/
theorem prefetchFirst_starts {variant : Nat} {n : Wheelhead} {entries : List OpEntry} {e : OpEntry} {slot : Fin 24}
    (idle : s.store.port = .idle) (queue : s.store.queue = []) (writes : s.store.pendingWrites = [])
    (candidate : entries.find? (s.prefetchable variant n) = some e) (missing : s.store.resident (keyOf n e.op) = none)
    (good : s.store.badKeys.getLsbD (keyOf n e.op) = false) (chosen : s.chooseSlot = some slot) :
    s.prefetchFirst variant n entries = s.setStore (fetchStarted s.store slot (keyOf n e.op)) := by
  have placed : s.store.placePrefetch (keyOf n e.op) = { s.store with queue := [⟨keyOf n e.op, .prefetch⟩] } := by
    simp [Store.placePrefetch, missing, good, queue]
  have same : (s.setStore (s.store.placePrefetch (keyOf n e.op))).chooseSlot = some slot := by
    rw [placed]
    exact chosen
  simp only [State.prefetchFirst, candidate, State.raisePrefetch]
  rw [arbitrate_fetch (by rw [State.setStore_store, placed, idle]) (by rw [State.setStore_store, placed])
    (.inr (by rw [State.setStore_store, placed, writes])) same, State.setStore_store, placed]
  simp [fetchStarted, queue, State.setStore]

/-- The store once a prefetch for the first candidate of a wheelhead has joined the fetch queue (R84, R114). -/
def joined (s : State) (variant : Nat) (n : Wheelhead) (x : Store) : Store :=
  match s.sister.opList.find? (s.prefetchable variant n) with
  | some e => x.placePrefetch (keyOf n e.op)
  | none => x

theorem joined_port (s : State) (variant : Nat) (n : Wheelhead) (x : Store) : (joined s variant n x).port = x.port := by
  unfold joined
  split
  · exact placePrefetch_port _ _
  · rfl

/-- With a busy port a prefetch for the first candidate joins the queue (R84, R85). -/
theorem prefetchFirst_joined (busy : t.store.port ≠ .idle) (tools : t.tools = s.tools) (variant : Nat) (n : Wheelhead) :
    (t.prefetchFirst variant n s.sister.opList).store = joined s variant n t.store := by
  rw [prefetchFirst_busy busy, prefetchable_congr tools]
  rfl

/-! ## An accepted PART BEGIN -/

/-- The state with the part record set, before the prefetches (R114). -/
def parted (s : State) (variant : Nat) : State := s.setSister { s.sister with part := some variant }

/-- A PART BEGIN sets the part record and changes the store alone beside (R114). -/
theorem storeOnly_beginPart (s : State) (variant : Nat) : storeOnly (parted s variant) (s.beginPart variant) :=
  (storeOnly_prefetchFirst _ variant .w0 s.sister.opList).trans (storeOnly_prefetchFirst _ variant .w1 s.sister.opList)

/-- With no candidate on either wheelhead the store stands. -/
theorem beginPart_none {variant : Nat} (none : ∀ n e, e ∈ s.sister.opList → s.prefetchable variant n e = false) :
    (s.beginPart variant).store = s.store := by
  have missing (n : Wheelhead) : s.sister.opList.find? ((parted s variant).prefetchable variant n) = .none :=
    List.find?_eq_none.mpr fun e mem => by
      rw [prefetchable_congr (t := parted s variant) (s := s) rfl, none n e mem]
      nofun
  have first : (parted s variant).prefetchFirst variant .w0 s.sister.opList = parted s variant :=
    prefetchFirst_none (missing .w0)
  show ((parted s variant).prefetchFirst variant .w0 s.sister.opList |>.prefetchFirst variant .w1 s.sister.opList).store = _
  rw [first, prefetchFirst_none (missing .w1)]
  rfl

/-- With a busy port both prefetches join the queue, wheelhead 0 first (R84, R114). -/
theorem beginPart_busy (busy : s.store.port ≠ .idle) (variant : Nat) :
    (s.beginPart variant).store = joined s variant .w1 (joined s variant .w0 s.store) := by
  have first : ((parted s variant).prefetchFirst variant .w0 s.sister.opList).store = joined s variant .w0 s.store :=
    prefetchFirst_joined (t := parted s variant) busy rfl variant .w0
  have tools : ((parted s variant).prefetchFirst variant .w0 s.sister.opList).tools = s.tools := by
    rw [storeOnly_prefetchFirst (parted s variant) variant .w0 s.sister.opList]
    rfl
  rw [← first]
  exact prefetchFirst_joined (by rwa [first, joined_port]) tools variant .w1

/-- In an idle store with no other work the first prefetch starts its fetch, and that of wheelhead 1 behind it joins the queue
(R84, R86, R114). -/
theorem beginPart_idle {variant : Nat} {n : Wheelhead} {e : OpEntry} {slot : Fin 24} (idle : s.store.port = .idle)
    (queue : s.store.queue = []) (writes : s.store.pendingWrites = [])
    (candidate : s.sister.opList.find? (s.prefetchable variant n) = some e)
    (first : n = .w0 ∨ s.sister.opList.find? (s.prefetchable variant .w0) = none)
    (missing : s.store.resident (keyOf n e.op) = none) (good : s.store.badKeys.getLsbD (keyOf n e.op) = false)
    (chosen : s.chooseSlot = some slot) :
    (s.beginPart variant).store =
      if n = .w0 then joined s variant .w1 (fetchStarted s.store slot (keyOf n e.op))
      else fetchStarted s.store slot (keyOf n e.op) := by
  have starts : (parted s variant).prefetchFirst variant n s.sister.opList =
      (parted s variant).setStore (fetchStarted s.store slot (keyOf n e.op)) :=
    prefetchFirst_starts (s := parted s variant) idle queue writes candidate missing good chosen
  show ((parted s variant).prefetchFirst variant .w0 s.sister.opList |>.prefetchFirst variant .w1 s.sister.opList).store = _
  cases n with
  | w0 =>
    rw [starts, if_pos rfl]
    exact prefetchFirst_joined (t := (parted s variant).setStore (fetchStarted s.store slot (keyOf .w0 e.op))) nofun rfl
      variant .w1
  | w1 =>
    have none : (parted s variant).prefetchFirst variant .w0 s.sister.opList = parted s variant :=
      prefetchFirst_none (s := parted s variant) (first.resolve_left nofun)
    rw [none, starts, if_neg nofun]
    rfl

end Sys2Proof.Machine.PartBegin

open Sys2Proof Sys2Proof.Machine Sys2Proof.Machine.PartBegin

/-- Settles O43: the refusals by the checks of R114, the frame by what a prefetch leaves as it was, and the store by the port's
state and the candidates. -/
theorem partBeginPrefetches : Obligations.PartBeginPrefetches := by
  constructor
  · intro variant s taken
    exact ⟨fun off => refuses_partBegin taken (checkPartBegin_wrongState off), fun running =>
      ⟨fun outside => refuses_partBegin taken (checkPartBegin_badValue running outside),
        fun named under => refuses_partBegin taken (checkPartBegin_busy running named under)⟩⟩
  · intro variant s taken running named free
    have handled : s.taking.handlePartBegin variant = (s.taking.beginPart variant.toNat).accept 0x08 := by
      rw [State.handlePartBegin, checkPartBegin_ok (s := s.taking) running named free]
      rfl
    have room := State.takesNow_room taken
    have replied : (s.taking.beginPart variant.toNat).accept 0x08 =
        { State.answered { s with sister := { s.sister with part := some variant.toNat } } 0x08 (.accepted .plain) with
          store := (s.taking.beginPart variant.toNat).store } := by
      have begun : s.taking.beginPart variant.toNat = (parted s.taking variant.toNat).setStore
          (s.taking.beginPart variant.toNat).store := storeOnly_beginPart s.taking variant.toNat
      rw [begun]
      exact State.send_reply _ _ room
    refine ⟨_, (Restarting.next_arrive_taken taken rfl).trans (congrArg _ handled), replied, beginPart_none (s := s.taking),
      fun busy => beginPart_busy (s := s.taking) busy variant.toNat, ?_⟩
    intro idle queue writes n e slot candidate first missing good chosen
    exact beginPart_idle (s := s.taking) idle queue writes candidate first missing good chosen
end

section
/-! PROOF. The flash record (R76, Table 11-10): its bytes field by field, and how it is judged when read back (Table 5-3). -/

namespace Sys2Proof.Machine.FlashRecord
open Sys2Proof Sys2Proof.Machine

/-! ## Numbers in bytes (section 0.6) -/

@[simp] theorem length_beBytes (k n : Nat) : (beBytes k n).length = k := by
  induction k with
  | zero => rfl
  | succ k ih => simp [beBytes, ih]

/-- Bytes read behind a number append their digits to it. -/
theorem foldl_beBytes (k n acc : Nat) :
    (beBytes k n).foldl (fun acc b => acc * 256 + b.toNat) acc = acc * 256 ^ k + n % 256 ^ k := by
  induction k generalizing acc with
  | zero => simp [beBytes, Nat.mod_one]
  | succ k ih =>
    rw [beBytes, List.foldl_cons, ih, BitVec.toNat_ofNat, show 2 ^ 8 = 256 from rfl, Nat.mod_pow_succ, Nat.add_mul,
      Nat.mul_assoc, Nat.pow_succ', Nat.mul_comm (256 ^ k) (n / 256 ^ k % 256), Nat.add_assoc,
      Nat.add_comm (n % 256 ^ k)]

/-- A number is read from the bytes it is written in (section 0.6). -/
theorem natOfBytes_beBytes {k n : Nat} (fits : n < 256 ^ k) : natOfBytes (beBytes k n) = n := by
  rw [natOfBytes, foldl_beBytes, Nat.zero_mul, Nat.zero_add, Nat.mod_eq_of_lt fits]

theorem natOfBytes_byte1 {n : Nat} (fits : n < 256) : natOfBytes [byte1 n] = n := by
  simp [natOfBytes, byte1, Nat.mod_eq_of_lt fits]

/-- A CRC field reads as the CRC it was written for (R76). -/
theorem natOfBytes_crcBytes (bytes : List Byte) : natOfBytes (crcBytes bytes) = (crc16 bytes).toNat := by
  have below := (crc16 bytes).isLt
  simp only [natOfBytes, crcBytes, bytes16, List.foldl_cons, List.foldl_nil, BitVec.extractLsb'_toNat,
    Nat.shiftRight_eq_div_pow]
  omega

/-- The field that stands behind some bytes. -/
theorem fieldAt_append {ahead field behind : List Byte} {start length : Nat} (starts : ahead.length = start)
    (fills : field.length = length) : fieldAt (ahead ++ (field ++ behind)) start length = natOfBytes field := by
  subst starts fills
  simp [fieldAt]

/-! ## The fields of a record (Table 11-10) -/

section record
variable (key : Nat) (env : Envelope)

/-- Bytes 0 to 9 of a record. -/
def recordHead : List Byte :=
  [0x6E#8, 0x5A#8, byte1 key, byte1 env.m] ++ beBytes 2 env.step ++ beBytes 4 env.eRef

@[simp] theorem length_recordHead : (recordHead key env).length = 10 := by simp [recordHead]

@[simp] theorem length_pointBytes (b : Bounds) : (pointBytes b).length = 3 := length_beBytes _ _

theorem length_flatMap_pointBytes (points : List Bounds) : (points.flatMap pointBytes).length = 3 * points.length := by
  induction points with
  | nil => rfl
  | cons b points ih =>
    rw [List.flatMap_cons, List.length_append, ih, length_pointBytes, List.length_cons]
    omega

@[simp] theorem length_recordBody : (recordBody key env).length = 202 := by
  show (recordHead key env ++ env.points.toList.flatMap pointBytes).length = 202
  rw [List.length_append, length_recordHead, length_flatMap_pointBytes, Vector.length_toList]

theorem length_recordBytes : (recordBytes key env).length = 204 := by
  simp [recordBytes, crcBytes, bytes16]

theorem take_recordBytes : (recordBytes key env).take 202 = recordBody key env := by
  rw [recordBytes, List.take_left' (length_recordBody key env)]

theorem field_marker : fieldAt (recordBytes key env) 0 2 = 0x6E5A := rfl

theorem field_crc : fieldAt (recordBytes key env) 202 2 = (crc16 (recordBody key env)).toNat := by
  rw [← natOfBytes_crcBytes, recordBytes, ← List.append_nil (crcBytes _)]
  exact fieldAt_append (length_recordBody key env) rfl

variable {key env}

theorem field_key (fits : key < 256) : fieldAt (recordBytes key env) 2 1 = key := natOfBytes_byte1 fits

theorem field_m (fits : env.m < 256) : fieldAt (recordBytes key env) 3 1 = env.m := natOfBytes_byte1 fits

theorem recordBytes_eq : recordBytes key env = [0x6E#8, 0x5A#8, byte1 key, byte1 env.m] ++ (beBytes 2 env.step ++
    (beBytes 4 env.eRef ++ (env.points.toList.flatMap pointBytes ++ crcBytes (recordBody key env)))) := by
  rw [recordBytes]
  generalize crcBytes (recordBody key env) = crc
  simp [recordBody]

theorem field_step (fits : env.step < 256 ^ 2) : fieldAt (recordBytes key env) 4 2 = env.step := by
  rw [recordBytes_eq, fieldAt_append (by simp) (length_beBytes 2 _), natOfBytes_beBytes fits]

theorem field_eRef (fits : env.eRef < 256 ^ 4) : fieldAt (recordBytes key env) 6 4 = env.eRef := by
  rw [recordBytes_eq, ← List.append_assoc, fieldAt_append (by simp) (length_beBytes 4 _), natOfBytes_beBytes fits]

/-- Point k stands in the three bytes from byte 10 + 3k. -/
theorem field_point {k : Nat} (inside : k < 64) :
    fieldAt (recordBytes key env) (10 + 3 * k) 3 = natOfBytes (pointBytes env.points[k]) := by
  have bound : k < env.points.toList.length := by simpa using inside
  have split : env.points.toList = env.points.toList.take k ++ env.points[k] :: env.points.toList.drop (k + 1) := by
    rw [← Vector.getElem_toList bound, List.getElem_cons_drop, List.take_append_drop]
  have bytes : recordBytes key env = (recordHead key env ++ (env.points.toList.take k).flatMap pointBytes) ++
      (pointBytes env.points[k] ++ ((env.points.toList.drop (k + 1)).flatMap pointBytes ++ crcBytes (recordBody key env))) := by
    rw [recordBytes]
    generalize crcBytes (recordBody key env) = crc
    conv =>
      lhs
      rw [recordBody, split]
    simp [recordHead]
  have starts : (recordHead key env ++ (env.points.toList.take k).flatMap pointBytes).length = 10 + 3 * k := by
    rw [List.length_append, length_recordHead, length_flatMap_pointBytes, List.length_take_of_le (Nat.le_of_lt bound)]
  rw [bytes, fieldAt_append starts (length_pointBytes _)]

theorem pointAt_recordBytes {k : Nat} (inside : k < 64) (lower : env.points[k].lower < 4096)
    (upper : env.points[k].upper < 4096) : pointAt (recordBytes key env) k = env.points[k] := by
  have field := field_point (key := key) (env := env) inside
  generalize env.points[k] = b at field lower upper ⊢
  rw [pointBytes, natOfBytes_beBytes (by omega)] at field
  obtain ⟨low, high⟩ := b
  simp only [pointAt, field, Bounds.mk.injEq] at lower upper ⊢
  omega

theorem points64_recordBytes (fits : ∀ b ∈ env.points.toList, b.lower < 4096 ∧ b.upper < 4096) :
    points64 (pointAt (recordBytes key env)) = env.points := by
  ext k inside
  have point := fits env.points[k] (by simp)
  rw [← pointAt_recordBytes (key := key) inside point.1 point.2]
  simp [points64]

end record

end Sys2Proof.Machine.FlashRecord

open Sys2Proof Sys2Proof.Machine Sys2Proof.Machine.FlashRecord

/-- Settles O40: the record is read field by field, so that it passes the tests of Table 5-3 in turn. -/
theorem flashRecordReadsBack : Obligations.FlashRecordReadsBack := by
  intro key env keyFits fits
  obtain ⟨least, most, step, eRef, points⟩ := fits
  refine ⟨length_recordBytes key env, ?_⟩
  have m := field_m (key := key) (env := env) (by omega)
  have inRange : ¬ (env.m < 4 ∨ 16 < env.m) := by omega
  simp [judgeRead, field_marker, field_crc, take_recordBytes, field_key keyFits, m, inRange, field_step step, field_eRef eRef,
    points64_recordBytes points]
end

section
/-! PROOF. Teaching (chapter 6): the TEACH request, the counting of a grind, the envelope formed, and its placement in the store
(R79, R81, R91, R95 to R103). -/

namespace Sys2Proof.Machine.Teaching
open Sys2Proof Sys2Proof.Machine Sys2Proof.Machine.Arming Sys2Proof.Machine.Charging Sys2Proof.Machine.FlashOutcomes

variable {s t : State}

/-! ## The request (R96) -/

section request
variable {variant journal wheelhead m : Byte} {step : BitVec 16} {op : Op} {n : Wheelhead}

theorem decodeRequest_teach : decodeRequest (requestBytes (.teach variant journal wheelhead m step)) =
    some (.teach variant journal wheelhead m step) := congrArg some (by simp only [Laws.word16_bytes])

theorem opOf_none (outside : 8 ≤ variant.toNat ∨ 16 ≤ journal.toNat) : opOf variant journal = none :=
  if_neg (by omega)

theorem wheelheadOf_none (outside : 2 ≤ wheelhead.toNat) : wheelheadOf wheelhead = none := by
  have not0 : wheelhead ≠ 0 := by rintro rfl; exact absurd outside (by decide)
  have not1 : wheelhead ≠ 1 := by rintro rfl; exact absurd outside (by decide)
  rw [wheelheadOf, if_neg not0, if_neg not1]

theorem checkTeach_wrongState (off : s.station = .unconfigured) :
    s.checkTeach variant journal wheelhead = .error .wrongState := if_pos off

section configured
variable (configured : s.station ≠ .unconfigured)
include configured

theorem checkTeach_badValue (outside : 8 ≤ variant.toNat ∨ 16 ≤ journal.toNat ∨ 2 ≤ wheelhead.toNat) :
    s.checkTeach variant journal wheelhead = .error .badValue := by
  rw [State.checkTeach, if_neg configured]
  rcases or_assoc.mpr outside with pair | head
  · rw [opOf_none pair]
  · rw [wheelheadOf_none head]
    cases opOf variant journal <;> rfl

variable (pair : opOf variant journal = some op) (head : wheelheadOf wheelhead = some n)
include pair head

theorem checkTeach_busy (waiting : (s.channels.get n).teach ≠ none) :
    s.checkTeach variant journal wheelhead = .error .busy := by
  simp [State.checkTeach, configured, pair, head, Option.isSome_iff_ne_none, waiting]

variable (free : (s.channels.get n).teach = none)
include free

theorem checkTeach_storeFull (full : 4 ≤ s.claims) (saved : s.store.isUnsaved (keyOf n op) = false) :
    s.checkTeach variant journal wheelhead = .error .storeFull := by
  simp [State.checkTeach, configured, pair, head, free, full, saved]

theorem checkTeach_ok (room : s.claims < 4 ∨ s.store.isUnsaved (keyOf n op) = true) :
    s.checkTeach variant journal wheelhead = .ok (n, keyOf n op) := by
  have fits : ¬ (4 ≤ s.claims ∧ s.store.isUnsaved (keyOf n op) = false) := by
    rintro ⟨full, saved⟩
    rcases room with few | unsaved
    · exact Nat.not_le.mpr few full
    · rw [saved] at unsaved
      cases unsaved
  simp [State.checkTeach, configured, pair, head, free, fits]

end configured

/-- A TEACH that fails a check is refused with it. -/
theorem refuses_teach {reason : Reason} (taken : s.takesNow (.teach variant journal wheelhead m step) = true)
    (failed : s.taking.checkTeach variant journal wheelhead = .error reason) :
    s.refuses (.teach variant journal wheelhead m step) 0x0F reason := by
  refine PartBegin.refuses_of_handled taken rfl decodeRequest_teach ?_
  show s.taking.handleTeach variant journal wheelhead m step = _
  rw [State.handleTeach, failed]
  rfl

/-- A TEACH that passes its checks puts the buffer in WAITING, and is answered with what it takes. -/
theorem exec_teach_accepted {key : Nat} (taken : s.takesNow (.teach variant journal wheelhead m step) = true)
    (passed : s.taking.checkTeach variant journal wheelhead = .ok (n, key)) :
    exec (.teach variant journal wheelhead m step) s = .next
      ((s.setTeach n (some (TeachBuffer.start key (takenM m) (takenStep step)))).answered 0x0F
        (.accepted (.teach (takenM m) (takenStep step)))) := by
  have handled : s.taking.handleTeach variant journal wheelhead m step =
      (s.taking.setTeach n (some (TeachBuffer.start key (takenM m) (takenStep step)))).accept 0x0F
        (.teach (takenM m) (takenStep step)) := by
    rw [State.handleTeach, passed]
    rfl
  refine (Restarting.next_arrive_taken taken decodeRequest_teach).trans (congrArg _ (handled.trans ?_))
  exact State.send_reply_taking (s.setTeach n _) _ _ (State.takesNow_room taken)

end request

/-! ## Counting and forming (R100, R101) -/

section buffer
variable (b : TeachBuffer) (energy : Nat) (c : Figures) {k : Nat} (inside : k < 64)

theorem closeGrind_grindTable : (b.closeGrind true energy).grindTable[k] = none := by simp [TeachBuffer.closeGrind]

/-- A counted grind merges its table point by point (R100). -/
theorem closeGrind_table : (b.closeGrind true energy).table[k] = mergePoint b.grindTable[k] b.table[k] := by
  simp [TeachBuffer.closeGrind]

theorem envelope_points : (b.envelope c).points[k] = envelopePoint c.marginLow c.marginHigh b.table[k] := by
  simp [TeachBuffer.envelope]

@[simp] theorem closeGrind_key (counted : Bool) : (b.closeGrind counted energy).key = b.key := by cases counted <;> rfl

@[simp] theorem closeGrind_m (counted : Bool) : (b.closeGrind counted energy).m = b.m := by cases counted <;> rfl

end buffer

/-! ## The slot chosen (R79, R81) -/

section slots
variable {slot : Fin 24}

theorem envSlot_pinned_iff (e : EnvSlot) : e.pinned = true ↔
    (∃ key, e = .filling key) ∨ (∃ key env attempts, e = .writing key env attempts) ∨ ∃ key env, e = .unsaved key env := by
  cases e <;> simp [EnvSlot.pinned]

theorem heldSlot_journal {c : Channel} {phase : JournalPhase} {j : Journal} (opened : c.activity = .journal phase j) :
    c.heldSlot = some slot ↔ j.source = some (.envelope slot) := by
  rcases source : j.source with _ | (held | _ | _) <;> simp [Channel.heldSlot, opened, source]

/-- A channel holds the slot of an open journal's envelope, and no other (R79). -/
theorem heldSlot_eq_some (c : Channel) :
    c.heldSlot = some slot ↔ ∃ phase j, c.activity = .journal phase j ∧ j.source = some (.envelope slot) := by
  cases activity : c.activity with
  | journal phase j =>
    rw [heldSlot_journal activity]
    constructor
    · exact fun source => ⟨phase, j, rfl, source⟩
    · rintro ⟨_, _, ⟨⟩, source⟩
      exact source
  | idle | stopped | dressing => simp [Channel.heldSlot, activity]

theorem exists_wheelhead {P : Wheelhead → Prop} : (∃ n, P n) ↔ P .w0 ∨ P .w1 :=
  ⟨fun ⟨n, h⟩ => by cases n <;> simp [h], fun h => h.elim (⟨_, ·⟩) (⟨_, ·⟩)⟩

/-- A slot is pinned by its own state or by a channel that holds it (R79). -/
theorem pinnedSlot_iff : s.pinnedSlot slot = true ↔
    (s.store.slots.get slot).pinned = true ∨ ∃ n, (s.channels.get n).heldSlot = some slot := by
  rw [exists_wheelhead]
  simp [State.pinnedSlot, PerHead.get, or_assoc]

theorem envSlot_key_isNone (e : EnvSlot) : e.key.isNone = true ↔ e = .empty := by cases e <;> simp [EnvSlot.key]

/-- The lowest EMPTY slot is chosen (R81). -/
theorem chooseSlot_empty (empty : s.store.slots.get slot = .empty) (lowest : ∀ k < slot, s.store.slots.get k ≠ .empty) :
    s.chooseSlot = some slot := by
  have found : envSlots.find? (fun k => (s.store.slots.get k).key.isNone) = some slot := by
    have order : envSlots = List.finRange 24 := rfl
    rw [order, List.find?_eq_some_iff_getElem]
    refine ⟨(envSlot_key_isNone _).mpr empty, slot, by simp, by simp, fun k below => ?_⟩
    have occupied := mt (envSlot_key_isNone _).mp (lowest ⟨k, by omega⟩ below)
    simpa [Option.isSome_iff_ne_none] using occupied
  rw [State.chooseSlot, found]

/-- With no slot EMPTY the least recently used one that is not pinned is chosen (R81). -/
theorem chooseSlot_recent {ahead behind : List (Fin 24)} (occupied : ∀ k, s.store.slots.get k ≠ .empty)
    (order : s.store.lru = ahead ++ slot :: behind) (pinned : ∀ k ∈ ahead, s.pinnedSlot k = true)
    (free : s.pinnedSlot slot = false) : s.chooseSlot = some slot := by
  have none : envSlots.find? (fun k => (s.store.slots.get k).key.isNone) = none :=
    List.find?_eq_none.mpr fun k _ holds => occupied k ((envSlot_key_isNone _).mp holds)
  rw [State.chooseSlot, none]
  exact List.find?_eq_some_iff_append.mpr ⟨by simp [free], ahead, behind, order, fun k mem => by simp [pinned k mem]⟩

end slots

/-! ## Placement (R91, R102, R103) -/

section placement
variable {key : Nat} {env : Envelope} {slot : Fin 24}

/-- The store once an envelope stands in a slot, the flash port apart (R91, R102, R103). -/
def placed (x : Store) (slot : Fin 24) (key : Nat) (env : Envelope) : Store :=
  { x with
    slots := x.slots.set slot (.writing key env 0), lru := x.lru.filter (fun k => k != slot) ++ [slot]
    queue := x.queue.filter (fun r => r.key != key), badKeys := x.badKeys &&& ~~~(BitVec.twoPow 256 key)
    pendingWrites := if slot ∈ x.pendingWrites then x.pendingWrites else x.pendingWrites ++ [slot] }

theorem placeInto_eq (x : Store) (slot : Fin 24) (key : Nat) (env : Envelope) :
    x.placeInto slot key env = { placed x slot key env with port := x.port.discardWrite slot } := by
  simp only [Store.placeInto, placed, List.contains_iff_mem]
  rfl

theorem placeEnvelope_eq (into : s.store.resident key = some slot ∨ s.store.resident key = none ∧ s.chooseSlot = some slot) :
    s.placeEnvelope key env =
      (s.setStore { placed s.store slot key env with port := s.store.port.discardWrite slot }).arbitrate := by
  have found : (s.store.resident key).or s.chooseSlot = some slot := by
    rcases into with resident | ⟨missing, chosen⟩
    · simp [resident]
    · simp [missing, chosen]
  rw [State.placeEnvelope, found, ← placeInto_eq]

variable (into : s.store.resident key = some slot ∨ s.store.resident key = none ∧ s.chooseSlot = some slot)
include into

/-- A fetch under way goes on. -/
theorem placeEnvelope_fetching {other : Fin 24} {k reads : Nat} {cutShort : Bool}
    (port : s.store.port = .fetching other k reads cutShort) :
    s.placeEnvelope key env = s.setStore (placed s.store slot key env) := by
  have same : { placed s.store slot key env with port := s.store.port.discardWrite slot } = placed s.store slot key env := by
    simp [port, FlashPort.discardWrite, placed]
  rw [placeEnvelope_eq into, same]
  refine State.arbitrate_busy ?_
  rw [State.setStore_store, show (placed s.store slot key env).port = s.store.port from rfl, port]
  nofun

/-- A write under way goes on, and its outcome is discarded when it goes to the slot (R103). -/
theorem placeEnvelope_writing {other : Fin 24} {k : Nat} {record : List Byte} {discard : Bool}
    (port : s.store.port = .writing other k record discard) :
    s.placeEnvelope key env = s.setStore { placed s.store slot key env with
      port := .writing other k record (discard || decide (other = slot)) } := by
  rw [placeEnvelope_eq into, port]
  exact State.arbitrate_busy nofun

/-- An idle port with no other work starts the write (R90, R102). -/
theorem placeEnvelope_idle (port : s.store.port = .idle) (prefetches : ∀ r ∈ (placed s.store slot key env).queue, r.kind = .prefetch)
    (writes : s.store.pendingWrites = []) :
    s.placeEnvelope key env = s.setStore { placed s.store slot key env with
      port := .writing slot key (recordBytes key env) false, pendingWrites := [] } := by
  have waiting : (placed s.store slot key env).pendingWrites = [slot] := by simp [placed, writes]
  have held : (placed s.store slot key env).slots.get slot = .writing key env 0 := vector_get_set_same _ _ _
  rw [placeEnvelope_eq into, port]
  exact arbitrate_write rfl waiting held fun r first => prefetches r (List.mem_of_head? first)

end placement

/-! ## What a placement depends on and leaves -/

section congruence
variable (store : t.store = s.store) (held : ∀ n, (t.channels.get n).heldSlot = (s.channels.get n).heldSlot)
include store held

theorem chooseSlot_of_store : t.chooseSlot = s.chooseSlot :=
  chooseSlot_congr (congrArg Store.slots store) (congrArg Store.lru store) held

/-- What the arbiter makes of the store depends on the store and the slots that the channels hold. -/
theorem arbitrate_store_congr : t.arbitrate.store = s.arbitrate.store := by
  have fetch (r : FetchRequest) (rest : List FetchRequest) : (t.startFetch r rest).store = (s.startFetch r rest).store := by
    rw [State.startFetch, State.startFetch, chooseSlot_of_store store held, store]
    cases s.chooseSlot with
    | none => exact store
    | some slot => rfl
  have write (slot : Fin 24) (rest : List (Fin 24)) : (t.startWrite slot rest).store = (s.startWrite slot rest).store := by
    rw [State.startWrite, State.startWrite, store]
    cases s.store.slots.get slot with
    | writing => rfl
    | _ => exact store
  rw [State.arbitrate, State.arbitrate, store]
  split
  · split
    · exact fetch _ _
    · exact write _ _
    · exact fetch _ _
    · exact store
  · exact store

/-- What a placement makes of the store depends on the store and the slots that the channels hold. -/
theorem placeEnvelope_store_congr (key : Nat) (env : Envelope) :
    (t.placeEnvelope key env).store = (s.placeEnvelope key env).store := by
  rw [State.placeEnvelope, State.placeEnvelope, chooseSlot_of_store store held, store]
  cases (s.store.resident key).or s.chooseSlot with
  | none => exact store
  | some slot => exact arbitrate_store_congr (t := t.setStore _) (s := s.setStore _) rfl held

end congruence

theorem storeOnly_placeEnvelope (s : State) (key : Nat) (env : Envelope) : storeOnly s (s.placeEnvelope key env) := by
  unfold State.placeEnvelope
  split
  · rfl
  · exact storeOnly_arbitrate (s.setStore _)

/-! ## The end of a teach grind (R100, R101) -/

section grind
variable {n : Wheelhead} {j : Journal} {b : TeachBuffer}

/-- A teach that has not counted M grinds waits on. -/
theorem completeTeach_waits (teach : (s.channels.get n).teach = some b) (few : b.counted < b.m) : s.completeTeach n = s := by
  simp [State.completeTeach, teach, Nat.not_le.mpr few]

/-- A teach that has counted M grinds frees its buffer and places its envelope (R101). -/
theorem completeTeach_places (teach : (s.channels.get n).teach = some b) (full : b.m ≤ b.counted) :
    s.completeTeach n = (s.setTeach n none).placeEnvelope b.key (b.envelope s.figures) := by
  simp [State.completeTeach, teach, full]

/-- The buffer counts a grind closed by request when its verdict is NONE and contact was declared (R58, R100). -/
theorem counts_settle (j : Journal) :
    counts (j.settle false) j.contacted = (j.verdict.isNone && !j.heavy && j.contacted) := by
  unfold Journal.settle
  cases j.verdict <;> cases j.heavy <;> rfl

/-- The state once the grind of a closing journal is charged, closed in its teach buffer and recorded (R58). -/
def grindClosed (s : State) (n : Wheelhead) (j : Journal) : State :=
  let r := s.grindRecord n j false
  let c := s.counters.get n
  (((s.setCounter n { c with journalEnd := some c.count }).chargeTool j.slot r.charge).closeTeach n j r.teachCounted).send
    (.grindRecord r)

/-- The close of a journal is that of its grind, the completion of its teach when the grind is counted, and the end of the
activity; what follows moves tools alone (R58). -/
theorem closeJournal_moves (s : State) (n : Wheelhead) (j : Journal) (after : Activity) :
    ToolsMove
      ((if (s.grindRecord n j false).teachCounted then (grindClosed s n j).completeTeach n else grindClosed s n j).setActivity
        n after)
      (s.closeJournal n j false after) := .afterCharge _ _ _ _ _

variable (source : j.source = some .teach) (teach : (s.channels.get n).teach = some b)
include source teach

theorem grindRecord_teachCounted :
    (s.grindRecord n j false).teachCounted = (j.verdict.isNone && !j.heavy && j.contacted) := by
  rw [← counts_settle]
  simp [State.grindRecord, State.teachCounts, source, teach]

/-- The end of a teach grind closes it in the buffer, and leaves the store and the figures as they were. -/
theorem grindClosed_teach : (grindClosed s n j).store = s.store ∧ (grindClosed s n j).figures = s.figures ∧
    (grindClosed s n j).channels = s.channels.set n { s.channels.get n with
      teach := some (b.closeGrind (j.verdict.isNone && !j.heavy && j.contacted) j.energy) } := by
  have charged := ToolsMove.chargeTool
    (s.setCounter n { s.counters.get n with journalEnd := some (s.counters.get n).count }) j.slot (s.grindRecord n j false).charge
  have closed {u : State} (channels : u.channels = s.channels) (counted : Bool) :
      u.closeTeach n j counted = u.setTeach n (some (b.closeGrind counted j.energy)) := by
    simp [State.closeTeach, source, channels, teach]
  rw [grindClosed, closed charged.channels, grindRecord_teachCounted source teach]
  refine ⟨charged.store, charged.figures, ?_⟩
  show PerHead.set _ n _ = _
  rw [charged.channels]
  rfl

/-- A teach grind that is not counted, or is not the last one, leaves its buffer WAITING and the store as it was (R100). -/
theorem closeJournal_waits (after : Activity)
    (waits : (j.verdict.isNone && !j.heavy && j.contacted) = false ∨
      (b.closeGrind (j.verdict.isNone && !j.heavy && j.contacted) j.energy).counted < b.m) :
    ((s.closeJournal n j false after).channels.get n).teach =
        some (b.closeGrind (j.verdict.isNone && !j.heavy && j.contacted) j.energy) ∧
      (s.closeJournal n j false after).store = s.store := by
  obtain ⟨store, -, channels⟩ := grindClosed_teach source teach
  have buffer : ((grindClosed s n j).channels.get n).teach =
      some (b.closeGrind (j.verdict.isNone && !j.heavy && j.contacted) j.energy) := by rw [channels, PerHead.get_set_same]
  have still : (if (s.grindRecord n j false).teachCounted then (grindClosed s n j).completeTeach n else grindClosed s n j) =
      grindClosed s n j := by
    rw [grindRecord_teachCounted source teach]
    rcases waits with uncounted | few
    · rw [uncounted]
      rfl
    · rw [completeTeach_waits buffer (by simpa using few), ite_self]
  have moves := closeJournal_moves s n j after
  rw [still] at moves
  refine ⟨?_, moves.store.trans store⟩
  rw [moves.channels, State.setActivity_channels, PerHead.get_set_same]
  exact buffer

/-- The last counted grind of a teach frees its buffer and places its envelope in the store (R101, R102). -/
theorem closeJournal_places (after : Activity) (counted : (j.verdict.isNone && !j.heavy && j.contacted) = true)
    (full : b.m ≤ (b.closeGrind true j.energy).counted) :
    ((s.closeJournal n j false after).channels.get n).teach = none ∧
      (s.closeJournal n j false after).store =
        (s.placeEnvelope b.key ((b.closeGrind true j.energy).envelope s.figures)).store := by
  obtain ⟨store, figures, channels⟩ := grindClosed_teach source teach
  rw [counted] at channels
  have buffer : ((grindClosed s n j).channels.get n).teach = some (b.closeGrind true j.energy) := by
    rw [channels, PerHead.get_set_same]
  have completed : (if (s.grindRecord n j false).teachCounted then (grindClosed s n j).completeTeach n else grindClosed s n j) =
      ((grindClosed s n j).setTeach n none).placeEnvelope b.key ((b.closeGrind true j.energy).envelope s.figures) := by
    rw [grindRecord_teachCounted source teach, counted, if_pos rfl, completeTeach_places buffer (by simpa using full), figures,
      closeGrind_key]
  have freed : ((grindClosed s n j).setTeach n none).channels = s.channels.set n { s.channels.get n with teach := none } := by
    rw [State.setTeach_channels, channels, PerHead.get_set_same, PerHead.set_set]
  have held (k : Wheelhead) :
      (((grindClosed s n j).setTeach n none).channels.get k).heldSlot = (s.channels.get k).heldSlot := by
    rw [freed]
    by_cases own : k = n
    · subst own
      rw [PerHead.get_set_same]
      rfl
    · rw [PerHead.get_set_other _ _ own]
  have moves := closeJournal_moves s n j after
  rw [completed] at moves
  constructor
  · rw [moves.channels, State.setActivity_channels, PerHead.get_set_same, storeOnly_placeEnvelope _ b.key _,
      State.setStore_channels, freed, PerHead.get_set_same]
  · exact moves.store.trans (placeEnvelope_store_congr (t := (grindClosed s n j).setTeach n none) store held _ _)

end grind

/-- A JOURNAL END that is taken now in RUNNING closes the open journal of its channel (R56). -/
theorem exec_journalEnd_taken {wheelhead : Byte} {n : Wheelhead} {phase : JournalPhase} {j : Journal}
    (taken : s.takesNow (.journalEnd wheelhead) = true) (running : s.station = .running)
    (head : wheelheadOf wheelhead = some n) (journal : (s.channels.get n).activity = .journal phase j) :
    exec (.journalEnd wheelhead) s =
      .next (s.taking.finish ((s.taking.closeJournal n j false (afterClose phase)).accept 0x0B)) := by
  have handled : s.taking.handleJournalEnd wheelhead = (s.taking.closeJournal n j false (afterClose phase)).accept 0x0B := by
    simp [State.handleJournalEnd, running, head, journal]
  refine (Restarting.next_arrive_taken taken rfl).trans (congrArg _ ?_)
  show s.taking.finish (s.taking.handleJournalEnd wheelhead) = _
  rw [handled]

end Sys2Proof.Machine.Teaching

open Sys2Proof Sys2Proof.Machine Sys2Proof.Machine.Teaching

/-- Settles O37: the request by its checks, the buffer point by point, the end of a teach grind by what closing a journal makes of
the buffer and of the store, and the placement by the slot chosen and the state of the flash port. -/
theorem teachWaitsCountsAndForms : Obligations.TeachWaitsCountsAndForms := by
  refine ⟨?accepted, ?refused, ?counted, ?formed, ?closed, ?chosen, ?placed⟩
  case accepted =>
    intro variant journal wheelhead m step op n s taken configured pair head free room
    exact exec_teach_accepted taken (checkTeach_ok (s := s.taking) configured pair head free room)
  case refused =>
    intro variant journal wheelhead m step s i taken
    exact ⟨fun off => refuses_teach taken (checkTeach_wrongState (s := s.taking) off), fun configured =>
      ⟨fun outside => refuses_teach taken (checkTeach_badValue (s := s.taking) configured outside),
        fun op n pair head =>
          ⟨fun waiting => refuses_teach taken (checkTeach_busy (s := s.taking) configured pair head waiting),
            fun free full saved => refuses_teach taken (checkTeach_storeFull (s := s.taking) configured pair head free full saved)⟩⟩⟩
  case counted =>
    intro b energy k inside c
    refine ⟨rfl, rfl, rfl, rfl, rfl, rfl, closeGrind_grindTable b energy inside, ?absent, ?new, ?both⟩
    case absent => intro absent; rw [closeGrind_table b energy inside, absent]; rfl
    case new => intro g grind absent; rw [closeGrind_table b energy inside, grind, absent]; rfl
    case both => intro g u grind taught; rw [closeGrind_table b energy inside, grind, taught]; rfl
  case formed =>
    intro b c k inside e
    refine ⟨rfl, rfl, rfl, ?absent, ?taught⟩
    case absent => intro absent; rw [envelope_points b c inside, absent]; rfl
    case taught => intro u taught; rw [envelope_points b c inside, taught]; rfl
  case closed =>
    intro n phase j b wheelhead s journal source teach head taken running counted closed
    have ended := Charging.ToolsMove.finish s.taking ((s.taking.closeJournal n j false (afterClose phase)).accept 0x0B)
    refine ⟨_, exec_journalEnd_taken taken running head journal, ?waits, ?places⟩ <;> rw [ended.channels, ended.store]
    case waits => exact closeJournal_waits (s := s.taking) source teach (afterClose phase)
    case places =>
      intro count full
      have isTrue : closed = b.closeGrind true j.energy := congrArg (b.closeGrind · j.energy) count
      obtain ⟨free, store⟩ := closeJournal_places (s := s.taking) source teach (afterClose phase) count (isTrue ▸ full)
      refine ⟨free, store.trans ?_⟩
      rw [← isTrue]
      exact placeEnvelope_store_congr (s := s) (t := s.taking) rfl (fun _ => rfl) _ _
  case chosen =>
    intro s slot
    refine ⟨?pinned, chooseSlot_empty, fun ahead behind occupied order pinned free => chooseSlot_recent occupied order pinned free⟩
    case pinned =>
      rw [pinnedSlot_iff, envSlot_pinned_iff]
      simp only [heldSlot_eq_some, or_assoc]
  case placed =>
    intro key env slot s into x
    exact ⟨fun _ _ _ _ port => placeEnvelope_fetching into port, fun _ _ _ _ port => placeEnvelope_writing into port,
      fun port prefetches writes => placeEnvelope_idle into port prefetches writes⟩
end

section
/-! PROOF. The invariants at reset (R83, R128, R137, R154, R174, R175, R180, R182, R183): every queue is empty, no tool is mounted
and both lines are UP. -/

namespace Sys2Proof.Machine.AtReset
open Sys2Proof Sys2Proof.Machine

theorem get_replicate {α : Type} {m : Nat} (x : α) (i : Fin m) : (Vector.replicate m x).get i = x := by
  show (Vector.replicate m x)[(i : Nat)] = x
  simp

theorem queuesBounded_reset : State.reset.queuesBounded :=
  ⟨Nat.zero_le 4, Nat.zero_le 16, Nat.zero_le 12, Nat.zero_le 8, fun waits => absurd rfl waits⟩

theorem noticesSound_reset : State.reset.noticesSound := by
  intro slot
  refine ⟨Nat.zero_le 1, fun n pending => ?_⟩
  rw [show State.reset.port.pendingNotices.get slot = none from get_replicate none slot] at pending
  cases pending

theorem tools_reset (slot : Fin 8) : State.reset.tools.get slot = none := get_replicate none slot

theorem lifeSound_reset : State.reset.lifeSound := by
  refine ⟨fun slot t mounted => ?_, fun _ => tools_reset⟩
  rw [tools_reset] at mounted
  cases mounted

theorem handOffsSound_reset : Sister.reset.handOffsSound := ⟨.nil, nofun⟩

end Sys2Proof.Machine.AtReset

open Sys2Proof Sys2Proof.Machine Sys2Proof.Machine.AtReset

/-- Settles O3, invariant by invariant. -/
theorem invariantsHoldAtReset : Obligations.InvariantsHoldAtReset :=
  ⟨queuesBounded_reset, nofun, noticesSound_reset, lifeSound_reset, .inl rfl, FetchQueue.queueSound_reset, handOffsSound_reset⟩
end

section
/-! PROOF. A request whose handling is the end of a step: the figures that the mark depends on, and what the offer of a STATUS
leaves as it was (R143 to R145, R175). -/

namespace Sys2Proof.Machine.Finishing
open Sys2Proof Sys2Proof.Machine

variable {s : State} {i : Instr} {code : Byte}

/-- A mark already set is not set again (R143, R144). -/
theorem markFigures_marked {before after : State} (marked : after.sister.mark = true) : before.markFigures after = after := by
  have again : after.markStatus = after := by
    show after.setSister { after.sister with mark := true } = after
    rw [← marked]
    rfl
  unfold State.markFigures
  split
  · exact again
  · rfl

/-- A request taken now whose handling ends a step that moves no figure is handled, but for the offer of a STATUS (R145, R175). -/
theorem offers_of_handled {after : State} (taken : s.takesNow i = true)
    (arrives : exec i s = .next (s.arrive (requestBytes i))) (reads : decodeRequest (requestBytes i) = some i)
    (handled : s.taking.handleRequest i = s.taking.finish after) (settled : s.taking.markFigures after = after) :
    ∃ t, exec i s = .next t ∧ after.statusOnly t := by
  refine ⟨s.taking.finish after, ?_, ?_⟩
  · rw [arrives, Restarting.next_arrive_taken taken reads, handled]
  · have ended := SampleInstant.finish_statusOnly s.taking after
    rwa [settled] at ended

/-- A request taken now, and refused when it is handled, is refused with nothing else changed but the offer of a STATUS
(R145, R175, R181). -/
theorem refusesAndOffers_of_handled {reason : Reason} (taken : s.takesNow i = true)
    (arrives : exec i s = .next (s.arrive (requestBytes i))) (reads : decodeRequest (requestBytes i) = some i)
    (handled : s.taking.handleRequest i = s.taking.finish (s.taking.refuse code reason)) :
    s.refusesAndOffers i code reason := by
  have replied : s.taking.refuse code reason = s.answered code (.refused reason) :=
    State.send_reply_taking s _ _ (State.takesNow_room taken)
  rw [replied] at handled
  exact offers_of_handled taken arrives reads handled (SampleInstant.markFigures_same rfl rfl)

/-! ## What the end of a step leaves as it was -/

/-- Putting a STATUS in its place moves no other frame (R128, R130). -/
theorem placeStatus_frames (l : Link) (body : StatusBody) : (l.placeStatus body).frames = l.frames := by
  have others : (fun f : QueuedFrame => !f.body.isStatus && !(f.body.isStatus && !f.sending)) =
      fun f => !f.body.isStatus := by
    funext f
    cases f.body.isStatus <;> simp
  unfold Link.placeStatus Link.frames
  simp only [List.filter_append, List.filter_filter, others]
  exact List.append_nil _

/-- The end of a step changes no more of the sister unit than the mark and the period timer, and no frame but a STATUS (R145). -/
theorem sameSisters_finish (before s : State) : s.sameSisters (before.finish s) := by
  have marked : s.sameSisters (before.markFigures s) := by
    unfold State.markFigures
    split <;> exact ⟨rfl, rfl⟩
  obtain ⟨sister, frames⟩ := marked
  unfold State.finish
  dsimp only
  split
  · refine ⟨?_, (placeStatus_frames _ _).trans frames⟩
    simp only [State.offerStatus, State.setSister_sister]
    rw [sister]
  · exact ⟨sister, frames⟩

/-- The end of a step places no message. -/
theorem finish_port (before s : State) : (before.finish s).port = s.port := by
  have marked : (before.markFigures s).port = s.port := by
    unfold State.markFigures
    split <;> rfl
  unfold State.finish
  dsimp only
  split <;> exact marked

end Sys2Proof.Machine.Finishing
end

section
/-! PROOF. ASSIGN and UNASSIGN (R111 to R113): the operands they name, their checks in order, and what an accepted one makes of
the operation list. -/

namespace Sys2Proof.Machine.Assigning
open Sys2Proof Sys2Proof.Machine Sys2Proof.Machine.Finishing

variable {s : State} {variant journal cls slot place beforeVariant beforeJournal : Byte} {op : Op}

/-! ## The operands (Tables 7-2 and 11-5) -/

theorem classOf_none (outside : 3 ≤ cls.toNat) : classOf cls = none := by
  have other {b : Byte} (inside : b.toNat < 3) : cls ≠ b := by
    rintro rfl
    omega
  rw [classOf, if_neg (other (by decide)), if_neg (other (by decide)), if_neg (other (by decide))]

theorem slotOf_none (outside : 8 ≤ slot.toNat) : slotOf slot = none := dif_neg (Nat.not_lt.mpr outside)

theorem slotOf_some {k : Fin 8} (named : slot.toNat = k.val) : slotOf slot = some k := by
  have inside : slot.toNat < 8 := named ▸ k.isLt
  rw [slotOf, dif_pos inside]
  exact congrArg some (Fin.ext named)

theorem listPlaceOf_back : listPlaceOf 0 beforeVariant beforeJournal = some .back := rfl

theorem listPlaceOf_before : listPlaceOf 1 beforeVariant beforeJournal = (opOf beforeVariant beforeJournal).map .before := rfl

theorem listPlaceOf_none
    (outside : 2 ≤ place.toNat ∨ place.toNat = 1 ∧ (8 ≤ beforeVariant.toNat ∨ 16 ≤ beforeJournal.toNat)) :
    listPlaceOf place beforeVariant beforeJournal = none := by
  have notBack : place ≠ 0 := by
    rintro rfl
    simp at outside
  rw [listPlaceOf, if_neg notBack]
  split
  · rename_i isBefore
    subst isBefore
    rw [Teaching.opOf_none (outside.resolve_left (by decide)).2]
    rfl
  · rfl

/-- The place bytes of an ASSIGN within range name a place: the pair that a BEFORE reads as, and otherwise the back. -/
theorem listPlaceOf_some (inside : place = 0 ∨ place = 1 ∧ opOf beforeVariant beforeJournal ≠ none) :
    ∃ spot, listPlaceOf place beforeVariant beforeJournal = some spot ∧
      (∀ other, spot = .before other → place ≠ 0 ∧ opOf beforeVariant beforeJournal = some other) ∧
      (place = 1 → ∃ other, spot = .before other) := by
  rcases inside with rfl | ⟨rfl, named⟩
  · exact ⟨.back, rfl, nofun, nofun⟩
  · obtain ⟨other, reads⟩ := Option.ne_none_iff_exists'.mp named
    refine ⟨.before other, ?_, ?_, fun _ => ⟨other, rfl⟩⟩
    · rw [listPlaceOf_before, reads]
      rfl
    · rintro _ ⟨⟩
      exact ⟨nofun, reads⟩

/-! ## The checks of an ASSIGN (Table 7-2) -/

theorem checkAssign_wrongState (off : s.station = .unconfigured) :
    s.checkAssign variant journal cls slot place beforeVariant beforeJournal = .error .wrongState := if_pos off

theorem checkAssign_busy (configured : s.station ≠ .unconfigured) (under : s.sister.part ≠ none) :
    s.checkAssign variant journal cls slot place beforeVariant beforeJournal = .error .busy := by
  simp [State.checkAssign, configured, Option.isSome_iff_ne_none, under]

section checks
variable (configured : s.station ≠ .unconfigured) (free : s.sister.part = none)
include configured free

theorem checkAssign_outside
    (outside : 8 ≤ variant.toNat ∨ 16 ≤ journal.toNat ∨ 3 ≤ cls.toNat ∨ 8 ≤ slot.toNat ∨ 2 ≤ place.toNat ∨
      place.toNat = 1 ∧ (8 ≤ beforeVariant.toNat ∨ 16 ≤ beforeJournal.toNat)) :
    s.checkAssign variant journal cls slot place beforeVariant beforeJournal = .error .badValue := by
  rw [State.checkAssign, if_neg configured, if_neg (by simp [free])]
  rcases or_assoc.mpr outside with pair | outside | outside | outside
  · rw [Teaching.opOf_none pair]
  · rw [classOf_none outside]
    cases opOf variant journal <;> rfl
  · rw [slotOf_none outside]
    cases opOf variant journal <;> cases classOf cls <;> rfl
  · rw [listPlaceOf_none outside]
    cases opOf variant journal <;> cases classOf cls <;> cases slotOf slot <;> rfl

variable {c : JournalClass} {k : Fin 8} {spot : ListPlace} (pair : opOf variant journal = some op)
  (cl : classOf cls = some c) (named : slotOf slot = some k)
  (read : listPlaceOf place beforeVariant beforeJournal = some spot)
include pair cl named read

theorem checkAssign_unknownTool (empty : s.tools.get k = none) :
    s.checkAssign variant journal cls slot place beforeVariant beforeJournal = .error .unknownTool := by
  simp [State.checkAssign, configured, free, pair, cl, named, read, empty]

variable {tool : Tool} (mounted : s.tools.get k = some tool)
include mounted

theorem checkAssign_elsewhere (elsewhere : ∀ n, tool.seat ≠ .wheelhead n) :
    s.checkAssign variant journal cls slot place beforeVariant beforeJournal = .error .badValue := by
  have head : s.wheelheadOfSlot k = none := by
    cases seat : tool.seat with
    | wheelhead n => exact absurd seat (elsewhere n)
    | dresser n => simp [State.wheelheadOfSlot, mounted, seat]
    | rack => simp [State.wheelheadOfSlot, mounted, seat]
  simp [State.checkAssign, configured, free, pair, cl, named, read, mounted, head]

variable {n : Wheelhead} (seat : tool.seat = .wheelhead n)
include seat

theorem checkAssign_toolBroken (broken : tool.state = .broken) :
    s.checkAssign variant journal cls slot place beforeVariant beforeJournal = .error .toolBroken := by
  simp [State.checkAssign, configured, free, pair, cl, named, read, mounted, State.wheelheadOfSlot, seat, broken]

variable (whole : tool.state ≠ .broken)
include whole

theorem checkAssign_taken (held : s.sister.listed op = true ∨ s.sister.isLent op = true) :
    s.checkAssign variant journal cls slot place beforeVariant beforeJournal = .error .badValue := by
  simp [State.checkAssign, configured, free, pair, cl, named, read, mounted, State.wheelheadOfSlot, seat, whole, held]

theorem checkAssign_unlisted {other : Op} (before : spot = .before other) (absent : s.sister.listed other = false) :
    s.checkAssign variant journal cls slot place beforeVariant beforeJournal = .error .badValue := by
  simp [State.checkAssign, configured, free, pair, cl, named, read, mounted, State.wheelheadOfSlot, seat, whole, before, absent]

variable (unlisted : s.sister.listed op = false) (unlent : s.sister.isLent op = false)
  (stands : ∀ other, spot = .before other → s.sister.listed other = true)
include unlisted unlent stands

/-- An ASSIGN that passes every check but the last is judged by the places of the list (R111). -/
theorem checkAssign_last :
    s.checkAssign variant journal cls slot place beforeVariant beforeJournal =
      if 24 ≤ s.sister.occupancy then .error .tableFull
      else .ok ({ op := op, cls := c, slot := k, lender := none, status := .active, mark := none }, spot) := by
  cases spot with
  | back =>
    simp [State.checkAssign, configured, free, pair, cl, named, read, mounted, State.wheelheadOfSlot, seat, whole, unlisted,
      unlent]
  | before other =>
    simp [State.checkAssign, configured, free, pair, cl, named, read, mounted, State.wheelheadOfSlot, seat, whole, unlisted,
      unlent, stands other rfl]

end checks

/-- An ASSIGN that fails a check is refused with it. -/
theorem refuses_assign {reason : Reason}
    (taken : s.takesNow (.assign variant journal cls slot place beforeVariant beforeJournal) = true)
    (failed : s.taking.checkAssign variant journal cls slot place beforeVariant beforeJournal = .error reason) :
    s.refusesAndOffers (.assign variant journal cls slot place beforeVariant beforeJournal) 0x06 reason := by
  refine refusesAndOffers_of_handled taken rfl rfl ?_
  show s.taking.finish (s.taking.handleAssign variant journal cls slot place beforeVariant beforeJournal) = _
  rw [State.handleAssign, failed]
  rfl

/-! ## An accepted ASSIGN (R112) -/

/-- An entry put ahead of a pair stands immediately ahead of the first entry of that pair. -/
theorem insertBefore_split {e other : OpEntry} {ahead behind : List OpEntry} (first : ∀ x ∈ ahead, x.op ≠ other.op) :
    insertBefore e other.op (ahead ++ other :: behind) = ahead ++ e :: other :: behind := by
  induction ahead with
  | nil => exact if_pos rfl
  | cons x ahead ih =>
    have later : x.op ≠ other.op := first x List.mem_cons_self
    rw [List.cons_append, insertBefore, if_neg later, ih fun y mem => first y (List.mem_cons_of_mem _ mem)]
    rfl

/-- An ASSIGN that passes its checks places its entry, and its list with the mark set is answered. -/
theorem accepts_assign {e : OpEntry} {spot : ListPlace} {entries : List OpEntry}
    (taken : s.takesNow (.assign variant journal cls slot place beforeVariant beforeJournal) = true)
    (passed : s.taking.checkAssign variant journal cls slot place beforeVariant beforeJournal = .ok (e, spot))
    (placed : placeEntry e spot s.sister.opList = entries) :
    ∃ t, exec (.assign variant journal cls slot place beforeVariant beforeJournal) s = .next t ∧
      ({ s with sister := { s.sister with opList := entries, mark := true } }.answered 0x06 (.accepted .plain)).statusOnly
        t := by
  refine offers_of_handled taken rfl rfl ?_ (markFigures_marked rfl)
  show s.taking.finish (s.taking.handleAssign variant journal cls slot place beforeVariant beforeJournal) = _
  rw [State.handleAssign, passed, ← placed]
  exact congrArg _ (State.send_reply_taking (s.assignEntry e spot) _ _ (State.takesNow_room taken))

/-! ## UNASSIGN (R113) -/

theorem checkUnassign_wrongState (off : s.station = .unconfigured) :
    s.checkUnassign variant journal = .error .wrongState := if_pos off

theorem checkUnassign_busy (configured : s.station ≠ .unconfigured) (under : s.sister.part ≠ none) :
    s.checkUnassign variant journal = .error .busy := by
  simp [State.checkUnassign, configured, Option.isSome_iff_ne_none, under]

section unassign
variable (configured : s.station ≠ .unconfigured) (free : s.sister.part = none)
include configured free

theorem checkUnassign_outside (outside : 8 ≤ variant.toNat ∨ 16 ≤ journal.toNat) :
    s.checkUnassign variant journal = .error .badValue := by
  simp [State.checkUnassign, configured, free, Teaching.opOf_none outside]

variable (pair : opOf variant journal = some op)
include pair

theorem checkUnassign_notMine (absent : s.sister.entry op = none) : s.checkUnassign variant journal = .error .notMine := by
  simp [State.checkUnassign, configured, free, pair, absent]

/-- An UNASSIGN of an entry is judged last by whether it is HANDING (R113). -/
theorem checkUnassign_last {e : OpEntry} (listed : s.sister.entry op = some e) :
    s.checkUnassign variant journal = if e.status = .handing then .error .busy else .ok e := by
  simp [State.checkUnassign, configured, free, pair, listed]

end unassign

/-- An UNASSIGN that fails a check is refused with it. -/
theorem refuses_unassign {reason : Reason} (taken : s.takesNow (.unassign variant journal) = true)
    (failed : s.taking.checkUnassign variant journal = .error reason) :
    s.refusesAndOffers (.unassign variant journal) 0x07 reason := by
  refine refusesAndOffers_of_handled taken rfl rfl ?_
  show s.taking.finish (s.taking.handleUnassign variant journal) = _
  rw [State.handleUnassign, failed]
  rfl

/-- An UNASSIGN that passes its checks removes its entry, and its list with the mark set is answered. -/
theorem accepts_unassign {e : OpEntry} (taken : s.takesNow (.unassign variant journal) = true)
    (passed : s.taking.checkUnassign variant journal = .ok e) :
    ∃ t, exec (.unassign variant journal) s = .next t ∧
      ({ s with sister := { s.sister with
          opList := s.sister.opList.filter (fun x => x.op != e.op), mark := true } }.answered 0x07
        (.accepted .plain)).statusOnly t := by
  refine offers_of_handled taken rfl rfl ?_ (markFigures_marked rfl)
  show s.taking.finish (s.taking.handleUnassign variant journal) = _
  rw [State.handleUnassign, passed]
  exact congrArg _ (State.send_reply_taking (s.unassignEntry e) _ _ (State.takesNow_room taken))

end Sys2Proof.Machine.Assigning

open Sys2Proof Sys2Proof.Machine Sys2Proof.Machine.Assigning

/-- Settles O42: each refusal by its check of Table 7-2 or R113, and an accepted request by what it makes of the list, its mark
being set already when the step ends. -/
theorem assignPlacesUnassignRemoves : Obligations.AssignPlacesUnassignRemoves := by
  refine ⟨?assigned, ?assignRefused, ?unassignRefused, ?unassigned⟩
  case assigned =>
    intro variant journal cls slot place beforeVariant beforeJournal op c k tool n s taken configured free pair cl named
      mounted seat whole unlisted unlent room
    have passed {spot : ListPlace} (read : listPlaceOf place beforeVariant beforeJournal = some spot)
        (stands : ∀ other, spot = .before other → s.sister.listed other = true) :=
      (checkAssign_last (s := s.taking) configured free pair cl (slotOf_some named) read mounted seat whole unlisted unlent
        stands).trans (if_neg (Nat.not_le.mpr room))
    constructor
    · rintro rfl
      exact accepts_assign taken (passed listPlaceOf_back nofun) rfl
    · rintro ahead other behind rfl ahead_of list first
      have read : listPlaceOf 1 beforeVariant beforeJournal = some (.before other.op) := by
        rw [listPlaceOf_before, ahead_of]
        rfl
      have listed : s.sister.listed other.op = true := by simp [Sister.listed, list]
      refine accepts_assign taken (passed read fun _ same => ?_) ?_
      · cases same
        exact listed
      · rw [list]
        exact insertBefore_split first
  case assignRefused =>
    intro variant journal cls slot place beforeVariant beforeJournal s i taken
    refine ⟨fun off => refuses_assign taken (checkAssign_wrongState off),
      fun configured under => refuses_assign taken (checkAssign_busy configured under), fun configured free =>
      ⟨fun outside => refuses_assign taken (checkAssign_outside configured free outside), ?_⟩⟩
    intro op c k pair cl named inside
    obtain ⟨spot, read, isBefore, before⟩ := listPlaceOf_some inside
    have inSlot := slotOf_some named
    refine ⟨fun empty => refuses_assign taken (checkAssign_unknownTool configured free pair cl inSlot read empty),
      fun tool mounted => ⟨fun elsewhere =>
        refuses_assign taken (checkAssign_elsewhere configured free pair cl inSlot read mounted elsewhere), fun n seat =>
      ⟨fun broken => refuses_assign taken (checkAssign_toolBroken configured free pair cl inSlot read mounted seat broken),
        fun whole => ⟨?held, ?full⟩⟩⟩⟩
    case held =>
      rintro (listed | lent | ⟨one, absent⟩)
      · exact refuses_assign taken (checkAssign_taken configured free pair cl inSlot read mounted seat whole (.inl listed))
      · exact refuses_assign taken (checkAssign_taken configured free pair cl inSlot read mounted seat whole (.inr lent))
      · obtain ⟨other, spotted⟩ := before one
        exact refuses_assign taken (checkAssign_unlisted configured free pair cl inSlot read mounted seat whole spotted
          (absent other (isBefore other spotted).2))
    case full =>
      intro unlisted unlent stands full
      have standing (other : Op) (spotted : spot = .before other) : s.sister.listed other = true :=
        stands.resolve_left (isBefore other spotted).1 other (isBefore other spotted).2
      exact refuses_assign taken ((checkAssign_last (s := s.taking) configured free pair cl inSlot read mounted seat whole
        unlisted unlent standing).trans (if_pos full))
  case unassignRefused =>
    intro variant journal s i taken
    refine ⟨fun off => refuses_unassign taken (checkUnassign_wrongState off),
      fun configured under => refuses_unassign taken (checkUnassign_busy configured under), fun configured free =>
      ⟨fun outside => refuses_unassign taken (checkUnassign_outside configured free outside), fun op pair =>
        ⟨fun absent => refuses_unassign taken (checkUnassign_notMine configured free pair absent),
          fun e listed handing => refuses_unassign taken
            ((checkUnassign_last (s := s.taking) configured free pair listed).trans (if_pos handing))⟩⟩⟩
  case unassigned =>
    intro variant journal op e s taken configured free pair listed staying
    have passed := (checkUnassign_last (s := s.taking) configured free pair listed).trans (if_neg staying)
    rw [← Arming.op_of_entry listed]
    exact accepts_unassign taken passed
end

section
/-! PROOF. PART END (R115, R116, R129, R170): its checks, and what the RELEASE frames and the OPS_BACK notices of the entries that
leave make of the state. -/

namespace Sys2Proof.Machine.PartEnd
open Sys2Proof Sys2Proof.Machine Sys2Proof.Machine.Finishing

variable {s t : State}

/-! ## The checks (R115) -/

theorem checkPartEnd_wrongState (off : s.station ≠ .running ∨ s.sister.part = none) :
    s.checkPartEnd = .error .wrongState := by
  unfold State.checkPartEnd
  rcases off with off | free
  · rw [if_pos off]
  · simp [free]

theorem checkPartEnd_last (running : s.station = .running) (under : s.sister.part ≠ none) :
    s.checkPartEnd =
      if s.channels.w0.journalOpen || s.channels.w1.journalOpen then .error .busy else .ok () := by
  simp [State.checkPartEnd, running, under]

theorem checkPartEnd_busy (running : s.station = .running) (under : s.sister.part ≠ none) {n : Wheelhead}
    (grinds : (s.channels.get n).journalOpen = true) : s.checkPartEnd = .error .busy := by
  have one : (s.channels.w0.journalOpen || s.channels.w1.journalOpen) = true := by
    cases n with
    | w0 => exact Bool.or_eq_true_iff.mpr (.inl grinds)
    | w1 => exact Bool.or_eq_true_iff.mpr (.inr grinds)
  rw [checkPartEnd_last running under, if_pos one]

theorem checkPartEnd_ok (running : s.station = .running) (under : s.sister.part ≠ none)
    (rest : ∀ n, (s.channels.get n).journalOpen = false) : s.checkPartEnd = .ok () := by
  have none : ¬ (s.channels.w0.journalOpen || s.channels.w1.journalOpen) = true := by
    rw [show s.channels.w0.journalOpen = false from rest .w0, show s.channels.w1.journalOpen = false from rest .w1]
    nofun
  rw [checkPartEnd_last running under, if_neg none]

/-- A PART END that fails a check is refused with it. -/
theorem refuses_partEnd {reason : Reason} (taken : s.takesNow .partEnd = true)
    (failed : s.taking.checkPartEnd = .error reason) : s.refusesAndOffers .partEnd 0x09 reason := by
  refine refusesAndOffers_of_handled taken rfl rfl ?_
  show s.taking.finish s.taking.handlePartEnd = _
  rw [State.handlePartEnd, failed]
  rfl

theorem handlePartEnd_accepted (passed : s.checkPartEnd = .ok ()) : s.handlePartEnd = s.endPart.accept 0x09 := by
  rw [State.handlePartEnd, passed]
  rfl

/-! ## Notices that are told -/

/-- A notice told stays told through a chain of notices, unless one is lost (R183). -/
theorem tellsNotice_told {m : OutMsg} (told : s.port.Told t.port) (other : m.otherNotice) (tells : s.tellsNotice m) :
    t.tellsNotice m := by
  obtain ⟨noReply, noRecord, noTool⟩ := other
  exact tells.elim (told.others m (by simp [OutMsg.isNotice, noReply, noRecord]) noTool) fun lost =>
    .inr (told.noticesFlag lost)

/-- A notice told stays told behind a REPLY (R183). -/
theorem tellsNotice_accept {m : OutMsg} {code : Byte} (room : s.port.replyRoom) (notice : m.isNotice = true)
    (tells : s.tellsNotice m) : (s.accept code).tellsNotice m := by
  obtain ⟨q, thin, placed⟩ := Port.place_reply_cases room code (.accepted .plain)
  have stays : m ∈ q.outbound ∨ q.noticesLost = true :=
    tells.elim (thin.mem_notice notice) fun lost => .inr (thin.noticesFlag lost)
  show m ∈ (s.port.place _).outbound ∨ (s.port.place _).noticesLost = true
  rw [placed]
  exact stays.imp (List.mem_append_left _) id

theorem repliedLast_accept {code : Byte} (room : s.port.replyRoom) : (s.accept code).repliedLast code (.accepted .plain) := by
  obtain ⟨q, -, placed⟩ := Port.place_reply_cases room code (.accepted .plain)
  show (s.port.place _).outbound.getLast? = _
  rw [placed]
  exact List.getLast?_concat

/-- Each of some notices sent one by one is told (R183). -/
theorem tellsNotice_foldl_sendSwap (notice : OpEntry → SwapNotice) {entries : List OpEntry} {e : OpEntry} (mem : e ∈ entries) :
    (entries.foldl (fun t e => t.sendSwap (notice e)) s).tellsNotice (.swapNotice (notice e)) := by
  induction entries generalizing s with
  | nil => cases mem
  | cons x entries ih =>
    rw [List.foldl_cons]
    rcases List.mem_cons.mp mem with rfl | later
    · have sent : (s.sendSwap (notice e)).tellsNotice (.swapNotice (notice e)) := (Port.Told.place s.port rfl).2
      have rest : (s.sendSwap (notice e)).Reports Sister.settled
          (entries.foldl (fun t e => t.sendSwap (notice e)) (s.sendSwap (notice e))) :=
        State.Reports.foldl (fun t _ => State.Reports.sendSwap _ (State.Reports.done (s := t))) _ .done
      exact tellsNotice_told rest.told ⟨rfl, rfl, fun _ => rfl⟩ sent
    · exact ih later

/-! ## Frames offered one by one (R128, R129) -/

theorem framesHeld_eq (l : Link) : l.framesHeld = l.frames.length := List.countP_eq_length_filter

theorem queueFrame_sister (s : State) (body : FrameBody) : (s.queueFrame body).sister = s.sister :=
  State.offerFrame_sister s body

theorem queueFrame_full {body : FrameBody} (full : ¬ s.link.framesHeld < 8) :
    s.queueFrame body = s.sendLinkNotice (.queueFull body.kind) := by
  rw [State.queueFrame, State.offerFrame_eq, if_neg full]

/-- A frame offered to a transmit queue with room joins the frames at the back. -/
theorem queueFrame_frames_room {body : FrameBody} (frame : body.isStatus = false) (room : s.link.framesHeld < 8) :
    (s.queueFrame body).link.frames = s.link.frames ++ [body.fresh] := by
  rw [State.queueFrame, State.offerFrame_eq, if_pos room]
  simp [Link.frames, List.filter_append, FrameBody.fresh, frame]

theorem queueFrame_held_room {body : FrameBody} (frame : body.isStatus = false) (room : s.link.framesHeld < 8) :
    (s.queueFrame body).link.framesHeld = s.link.framesHeld + 1 := by
  rw [framesHeld_eq, queueFrame_frames_room frame room, List.length_append, ← framesHeld_eq]
  rfl

theorem foldl_queueFrame_sister (bodies : List FrameBody) (s : State) :
    (bodies.foldl State.queueFrame s).sister = s.sister := by
  induction bodies generalizing s with
  | nil => rfl
  | cons body bodies ih => exact (ih _).trans (queueFrame_sister s body)

/-- Of some frames offered one by one, those that find one of the 8 places free join the back (R128, R129). -/
theorem foldl_queueFrame_frames {bodies : List FrameBody} (frames : ∀ b ∈ bodies, b.isStatus = false) (s : State) :
    (bodies.foldl State.queueFrame s).link.frames =
      s.link.frames ++ (bodies.map FrameBody.fresh).take (8 - s.link.framesHeld) := by
  induction bodies generalizing s with
  | nil => simp
  | cons body bodies ih =>
    have frame : body.isStatus = false := frames body List.mem_cons_self
    rw [List.foldl_cons, ih fun b mem => frames b (List.mem_cons_of_mem _ mem)]
    by_cases room : s.link.framesHeld < 8
    · have places : 8 - s.link.framesHeld = 8 - (s.link.framesHeld + 1) + 1 := by omega
      rw [queueFrame_frames_room frame room, queueFrame_held_room frame room, places, List.map_cons, List.take_succ_cons,
        List.append_assoc]
      rfl
    · have none : 8 - s.link.framesHeld = 0 := by omega
      rw [queueFrame_full room]
      show s.link.frames ++ List.take (8 - s.link.framesHeld) _ = _
      rw [none, List.take_zero, List.take_zero]

/-- Some frames of one kind offered one by one to a queue without places for them all are told by a QUEUE_FULL (R129). -/
theorem foldl_queueFrame_full {bodies : List FrameBody} {kind : FrameKind}
    (frames : ∀ b ∈ bodies, b.isStatus = false ∧ b.kind = kind) (offered : bodies ≠ [])
    (full : 8 < s.link.framesHeld + bodies.length) :
    (bodies.foldl State.queueFrame s).tellsNotice (.linkNotice (.queueFull kind)) := by
  induction bodies generalizing s with
  | nil => exact absurd rfl offered
  | cons body bodies ih =>
    obtain ⟨frame, same⟩ := frames body List.mem_cons_self
    rw [List.foldl_cons]
    by_cases room : s.link.framesHeld < 8
    · have length : 8 < s.link.framesHeld + 1 + bodies.length := by
        rw [List.length_cons] at full
        omega
      refine ih (fun b mem => frames b (List.mem_cons_of_mem _ mem)) ?_ ?_
      · rintro rfl
        rw [List.length_nil] at length
        omega
      · rwa [queueFrame_held_room frame room]
    · have discarded : (s.queueFrame body).tellsNotice (.linkNotice (.queueFull kind)) := by
        rw [queueFrame_full room, same]
        exact (Port.Told.place s.port rfl).2
      have rest : (s.queueFrame body).Reports Sister.settled (bodies.foldl State.queueFrame (s.queueFrame body)) :=
        State.Reports.foldl (fun t b => State.Reports.queueFrame b (State.Reports.done (s := t))) _ .done
      exact tellsNotice_told rest.told ⟨rfl, rfl, fun _ => rfl⟩ discarded

/-! ## Marked entries that leave (R115, R170) -/

/-- The lenders of the entries marked RECLAIM, each once (R170; log entry 16). -/
def reclaimers (leaving : List OpEntry) : List Nat :=
  distinct ((leaving.filter fun e => e.mark == some .reclaim).filterMap OpEntry.lender)

/-- The RELEASE that gives a lender its entries marked RECLAIM back (R170). -/
def releaseOf (leaving : List OpEntry) (lender : Nat) : FrameBody :=
  .release lender (((leaving.filter fun e => e.mark == some .reclaim).filter fun e => e.lender == some lender).map OpEntry.op)

theorem releaseToLenders_eq (s : State) (leaving : List OpEntry) :
    s.releaseToLenders leaving = ((reclaimers leaving).map (releaseOf leaving)).foldl State.queueFrame s :=
  List.foldl_map.symm

theorem releases_kind (leaving : List OpEntry) (b : FrameBody) (mem : b ∈ (reclaimers leaving).map (releaseOf leaving)) :
    b.isStatus = false ∧ b.kind = .release := by
  obtain ⟨l, -, rfl⟩ := List.mem_map.mp mem
  exact ⟨rfl, rfl⟩

section depart
variable (s) (sel : OpEntry → Bool)

/-- The marked entries that meet a condition, in list order. -/
def leavers : List OpEntry := s.sister.opList.filter fun e => e.mark.isSome && sel e

/-- The state in which the RELEASE frames of the entries that leave have been offered, and no notice sent (log entry 31). -/
def released : State :=
  (s.setSister { s.sister with opList := s.sister.opList.filter fun e => !(e.mark.isSome && sel e) }).releaseToLenders
    (leavers s sel)

/-- The OPS_BACK notice of an entry that leaves (R171; log entry 16). -/
def backOf (e : OpEntry) : SwapNotice := s.swapFor .opsBack e.lender [e]

theorem departMarked_eq : s.departMarked sel =
    (leavers s sel).foldl (fun t e => t.sendSwap (backOf s e)) (released s sel) := rfl

theorem departMarked_setPort : ∃ p, s.departMarked sel = (released s sel).setPort p :=
  ⟨_, Restarting.foldl_sendSwap _ _ _⟩

theorem departMarked_sister : (s.departMarked sel).sister =
    { s.sister with opList := s.sister.opList.filter fun e => !(e.mark.isSome && sel e) } := by
  obtain ⟨p, eq⟩ := departMarked_setPort s sel
  rw [eq, State.setPort_sister, released, releaseToLenders_eq, foldl_queueFrame_sister, State.setSister_sister]

theorem departMarked_frames : (s.departMarked sel).link.frames = s.link.frames ++
    ((reclaimers (leavers s sel)).map fun l => (releaseOf (leavers s sel) l).fresh).take (8 - s.link.framesHeld) := by
  obtain ⟨p, eq⟩ := departMarked_setPort s sel
  rw [eq, State.setPort_link, released, releaseToLenders_eq,
    foldl_queueFrame_frames fun b mem => (releases_kind _ b mem).1, List.map_map]
  rfl

theorem departMarked_tellsBack {e : OpEntry} (mem : e ∈ leavers s sel) : (s.departMarked sel).tellsBack e.lender [e.op] :=
  ⟨backOf s e, rfl, rfl, rfl, tellsNotice_foldl_sendSwap (backOf s) mem⟩

theorem departMarked_tellsFull (lent : reclaimers (leavers s sel) ≠ [])
    (full : 8 < s.link.framesHeld + (reclaimers (leavers s sel)).length) :
    (s.departMarked sel).tellsNotice (.linkNotice (.queueFull .release)) := by
  have offered : (released s sel).tellsNotice (.linkNotice (.queueFull .release)) := by
    rw [released, releaseToLenders_eq]
    refine foldl_queueFrame_full (releases_kind _) (by simpa using lent) ?_
    rwa [List.length_map]
  have rest : (released s sel).Reports Sister.settled (s.departMarked sel) :=
    State.Reports.foldl (fun t _ => State.Reports.sendSwap _ (State.Reports.done (s := t))) _ .done
  exact tellsNotice_told rest.told ⟨rfl, rfl, fun _ => rfl⟩ offered

variable {s sel}

/-- With no marked entry that meets the condition nothing changes. -/
theorem departMarked_none (stay : ∀ e ∈ s.sister.opList, (e.mark.isSome && sel e) = false) : s.departMarked sel = s := by
  have none : leavers s sel = [] := List.filter_eq_nil_iff.mpr fun e mem => by simp [stay e mem]
  have all : (s.sister.opList.filter fun e => !(e.mark.isSome && sel e)) = s.sister.opList :=
    List.filter_eq_self.mpr fun e mem => by simp [stay e mem]
  rw [departMarked_eq, released, none, all]
  rfl

end depart

/-! ## An accepted PART END -/

/-- The state with the part record cleared, before any entry leaves (R115). -/
def unparted (s : State) : State := s.setSister { s.sister with part := none }

/-- A PART END lets the marked entries leave, and sets the mark when there are any (R115, R145). -/
theorem endPart_cases (s : State) :
    (s.endPart = ((unparted s).departMarked fun e => e.status != .handing).markStatus ∧
        s.sister.opList.any OpEntry.leaves = true) ∨
      s.endPart = (unparted s).departMarked fun e => e.status != .handing := by
  unfold State.endPart
  dsimp only
  split
  · exact .inl ⟨rfl, ‹_›⟩
  · exact .inr rfl

/-- A PART END leaves the port and the frames as the entries that leave make them, and of the sister unit all but the mark. -/
theorem endPart_departs (s : State) :
    let u := (unparted s).departMarked fun e => e.status != .handing
    s.endPart.port = u.port ∧ s.endPart.link = u.link ∧
      s.endPart.sister = { u.sister with mark := s.endPart.sister.mark } := by
  rcases endPart_cases s with ⟨eq, -⟩ | eq <;> rw [eq] <;> exact ⟨rfl, rfl, rfl⟩

theorem reports_endPart (s : State) : (unparted s).Reports Sister.settled s.endPart := by
  have departs := (State.Reports.done (s := unparted s)).departMarked fun e => e.status != .handing
  rcases endPart_cases s with ⟨eq, -⟩ | eq
  · exact eq ▸ departs.markStatus
  · exact eq ▸ departs

/-- With no entry to leave a PART END clears the part record alone. -/
theorem endPart_none (stay : ∀ e ∈ s.sister.opList, e.mark = none ∨ e.status = .handing) : s.endPart = unparted s := by
  have stays (e : OpEntry) (mem : e ∈ s.sister.opList) : (e.mark.isSome && e.status != .handing) = false := by
    rcases stay e mem with unmarked | handing
    · simp [unmarked]
    · simp [handing]
  rcases endPart_cases s with ⟨-, leaves⟩ | eq
  · obtain ⟨e, mem, leaves⟩ := List.any_eq_true.mp leaves
    exact absurd leaves (by simp [OpEntry.leaves, stays e mem])
  · exact eq.trans (departMarked_none stays)

/-- The part record is no advertised figure (R143, R144). -/
theorem markFigures_unparted {after : State} (tools : after.tools = s.tools) (sister : after.sister = (unparted s).sister) :
    s.markFigures after = after :=
  SampleInstant.markFigures_same (before := unparted s) tools sister

/-- A notice told as the entries leave is told when the step ends, behind the REPLY (R183). -/
theorem tellsNotice_partEnd {m : OutMsg} (room : s.endPart.port.replyRoom) (notice : m.isNotice = true)
    (tells : ((unparted s).departMarked fun e => e.status != .handing).tellsNotice m) :
    (s.finish (s.endPart.accept 0x09)).tellsNotice m := by
  obtain ⟨port, -, -⟩ := endPart_departs s
  have told : s.endPart.tellsNotice m := by
    unfold State.tellsNotice at tells ⊢
    rwa [port]
  have behind := tellsNotice_accept (code := 0x09) room notice told
  unfold State.tellsNotice at behind ⊢
  rwa [finish_port]

/-- With no entry to leave a PART END clears the part record and is answered, but for the offer of a STATUS (R115, R145). -/
theorem statusOnly_partEnd (room : s.port.outbound.length < 16)
    (stay : ∀ e ∈ s.sister.opList, e.mark = none ∨ e.status = .handing) :
    ((unparted s).answered 0x09 (.accepted .plain)).statusOnly (s.taking.finish (s.taking.endPart.accept 0x09)) := by
  have left : s.taking.endPart.accept 0x09 = (unparted s).answered 0x09 (.accepted .plain) := by
    rw [endPart_none (s := s.taking) stay]
    exact State.send_reply _ _ room
  have ended := SampleInstant.finish_statusOnly s.taking (s.taking.endPart.accept 0x09)
  rw [left] at ended ⊢
  rwa [markFigures_unparted (by rfl) (by rfl)] at ended

theorem exec_partEnd_accepted (taken : s.takesNow .partEnd = true) (passed : s.taking.checkPartEnd = .ok ()) :
    exec .partEnd s = .next (s.taking.finish (s.taking.endPart.accept 0x09)) := by
  rw [← handlePartEnd_accepted passed]
  exact Restarting.next_arrive_taken taken rfl

end Sys2Proof.Machine.PartEnd

open Sys2Proof Sys2Proof.Machine Sys2Proof.Machine.Finishing Sys2Proof.Machine.PartEnd

/-- Settles O44: the refusals by the checks of R115, and an accepted PART END by what the frames and the notices of the entries that
leave make of the transmit queue and of the port, and by what the REPLY and the end of the step keep of them. -/
theorem partEndLetsMarkedLeave : Obligations.PartEndLetsMarkedLeave := by
  constructor
  · intro s taken
    exact ⟨fun off => refuses_partEnd taken (checkPartEnd_wrongState off), fun running under n grinds =>
      refuses_partEnd taken (checkPartEnd_busy running under grinds)⟩
  intro s taken running under rest
  have exec_eq := exec_partEnd_accepted taken
    (checkPartEnd_ok (s := s.taking) running (Option.isSome_iff_ne_none.mp under) rest)
  have free := State.takesNow_room taken
  have chain := reports_endPart s.taking
  have room : s.taking.endPart.port.replyRoom := chain.told.room ⟨Nat.le_of_lt free, .inl free⟩
  obtain ⟨-, link, sister⟩ := endPart_departs s.taking
  obtain ⟨ended, frames⟩ := sameSisters_finish s.taking (s.taking.endPart.accept 0x09)
  refine ⟨_, exec_eq, ?only, ?reply, ?sister, ⟨?back, ?frames, ?full⟩, ?none⟩
  case only =>
    have begun : s.taking.reportsOnly (unparted s.taking) := rfl
    exact State.reportsOnly_trans (State.reportsOnly_trans (State.reportsOnly_trans begun chain.only)
      (State.reportsOnly_setPort (Port.sameSides_place _ _))) (State.Reports.finish s.taking .done).only
  case reply =>
    rw [State.repliedLast, finish_port]
    exact repliedLast_accept room
  case sister =>
    have accepted : (s.taking.endPart.accept 0x09).sister = s.taking.endPart.sister := rfl
    rw [ended, accepted, sister, departMarked_sister]
    rfl
  case back =>
    intro e leaves
    obtain ⟨n, kind, peer, moved, tells⟩ := departMarked_tellsBack (unparted s.taking) (fun e => e.status != .handing) leaves
    exact ⟨n, kind, peer, moved, tellsNotice_partEnd room rfl tells⟩
  case frames =>
    have accepted : (s.taking.endPart.accept 0x09).link = s.taking.endPart.link := rfl
    rw [frames, accepted, link, departMarked_frames]
    rfl
  case full =>
    intro lent full
    exact tellsNotice_partEnd room rfl (departMarked_tellsFull (unparted s.taking) _ lent full)
  case none =>
    intro stay
    exact statusOnly_partEnd free stay
end

section
/-! PROOF. START (R145, R178): its two answers, and the first STATUS that an empty transmit queue makes it offer at once. -/

namespace Sys2Proof.Machine.Starting
open Sys2Proof Sys2Proof.Machine Sys2Proof.Machine.Finishing

variable {s : State}

/-! ## The first STATUS -/

/-- A STATUS put into the place of an empty transmit queue is its only frame and has met no collision (R130). -/
theorem placeStatus_empty {l : Link} (empty : l.queue = []) (body : StatusBody) :
    (l.placeStatus body).queue = [{ body := .status body, attempts := 0, sending := false }] := by
  simp [Link.placeStatus, Link.waitingStatus, empty]

/-- In RUNNING, with the mark set, no frame queued and no STATUS sent since START, a STATUS is due at once (R145). -/
theorem statusDue_first (running : s.station = .running) (marked : s.sister.mark = true) (empty : s.link.queue = [])
    (unsent : s.sister.lastSent = none) : s.statusDue = true := by
  have idle : s.link.statusSending = false := by simp [Link.statusSending, empty]
  have spaced : s.statusSpaced = true := by simp [State.statusSpaced, unsent]
  simp [State.statusDue, running, marked, idle, spaced]

/-- What a first STATUS, due at once, leaves: alone in the transmit queue, with the mark cleared and the period timer started
(R130, R145). -/
theorem statusOnly_first {t : State} (running : s.station = .running) (marked : s.sister.mark = true)
    (empty : s.link.queue = []) (unsent : s.sister.lastSent = none) (offered : s.statusOnly t) :
    t.link.queue = [{ body := .status s.statusBody, attempts := 0, sending := false }] ∧ t.sister.mark = false ∧
      t.sister.period = some (s.clock + 2 * s.figures.statusPeriod) := by
  have now : t = s.offerStatus := offered.trans (if_pos (statusDue_first running marked empty unsent))
  subst now
  exact ⟨placeStatus_empty empty s.statusBody, rfl, rfl⟩

/-! ## The handling of a START -/

/-- In CONFIGURED the station starts, and the START is answered ACCEPTED (R178). -/
theorem handleStart_configured (configured : s.station = .configured) : s.handleStart = s.startStation.accept 0x02 :=
  if_pos configured

/-- In any other state the START is refused (R178). -/
theorem handleStart_elsewhere (elsewhere : s.station ≠ .configured) : s.handleStart = s.refuse 0x02 .wrongState :=
  if_neg elsewhere

end Sys2Proof.Machine.Starting

open Sys2Proof Sys2Proof.Machine Sys2Proof.Machine.Finishing Sys2Proof.Machine.Starting

/-- Settles O7: each answer by the station's state, the mark of an accepted START being set already when its step ends; the STATUS
offered shows the station as it was, for it carries neither the station's state nor the mark. -/
theorem startEntersRunning : Obligations.StartEntersRunning := by
  intro s taken
  constructor
  · intro configured
    have handled : s.taking.handleStart = s.startStation.answered 0x02 (.accepted .plain) :=
      (handleStart_configured (s := s.taking) configured).trans
        (State.send_reply_taking s.startStation _ _ (State.takesNow_room taken))
    obtain ⟨t, next, only⟩ := offers_of_handled taken rfl rfl (congrArg s.taking.finish handled) (markFigures_marked rfl)
    exact ⟨t, next, only, fun empty unsent =>
      statusOnly_first (s := s.startStation.answered 0x02 (.accepted .plain)) rfl rfl empty unsent only⟩
  · intro elsewhere
    exact refusesAndOffers_of_handled taken rfl rfl (congrArg s.taking.finish (handleStart_elsewhere elsewhere))
end
